-- ==== Sys2Proof/Word.lean ====
section
/-! DEFINITION. The two widths of the machine: bytes (registers, memory, ports) and 16-bit words (SP, PC, pairs,
addresses). 00_scope R5, R7. -/

namespace Sys2Proof

/-- A value in [0,255] (00_scope R7). -/
abbrev Byte := BitVec 8

/-- A value in [0,65535] (00_scope R7). -/
abbrev Word := BitVec 16

end Sys2Proof
end

