-- ==== Sys2Proof/Syntax.lean ====
section
/-! DEFINITION. The instruction set as syntax: one constructor for each of the 256 rows of spec/opcode_table.json
(30_encoding R63, R68), and the operand selectors of 30_encoding R58 to R61. An operand's width is its type's, so no
ill-sized operand can be written. -/

namespace Sys2Proof

/-- The 3-bit register codes DDD and SSS in their order (30_encoding R58); `m` is code 110, the memory byte at HL. -/
inductive R8 where
  | b | c | d | e | h | l | m | a
  deriving DecidableEq, Repr

/-- The pair codes RP in their order for LXI, INX, DCX, DAD (30_encoding R59). -/
inductive RegPair where
  | bc | de | hl | sp
  deriving DecidableEq, Repr

/-- The pair codes RP in their order for PUSH and POP (30_encoding R59). -/
inductive StackPair where
  | bc | de | hl | psw
  deriving DecidableEq, Repr

/-- The two pairs LDAX and STAX take (30_encoding R59). -/
inductive IndexPair where
  | bc | de
  deriving DecidableEq, Repr

/-- The condition codes CCC in their order (30_encoding R60). -/
inductive Cond where
  | nz | z | nc | c | po | pe | p | m
  deriving DecidableEq, Repr

/-- The ALU operation codes in their order (30_encoding R61). -/
inductive AluOp where
  | add | adc | sub | sbb | ana | xra | ora | cmp
  deriving DecidableEq, Repr

/-- One constructor for each opcode value: those with an operand first (Lean's compiler wants small tags for them), then those
without, each group in the order of the opcode table. A constructor is named by the row's
mnemonic: `movBC` is MOV B,C; `lxiSP` is LXI SP; `inp` and `outp` are IN and OUT; `undoc08` is the row of the
undocumented value 0x08. -/
inductive Instr where
  | lxiB (d16 : Word)
  | mviB (d8 : Byte)
  | mviC (d8 : Byte)
  | lxiD (d16 : Word)
  | mviD (d8 : Byte)
  | mviE (d8 : Byte)
  | lxiH (d16 : Word)
  | shld (a16 : Word)
  | mviH (d8 : Byte)
  | lhld (a16 : Word)
  | mviL (d8 : Byte)
  | lxiSP (d16 : Word)
  | sta (a16 : Word)
  | mviM (d8 : Byte)
  | lda (a16 : Word)
  | mviA (d8 : Byte)
  | jnz (a16 : Word)
  | jmp (a16 : Word)
  | cnz (a16 : Word)
  | adi (d8 : Byte)
  | jz (a16 : Word)
  | cz (a16 : Word)
  | call (a16 : Word)
  | aci (d8 : Byte)
  | jnc (a16 : Word)
  | outp (port : Byte)
  | cnc (a16 : Word)
  | sui (d8 : Byte)
  | jc (a16 : Word)
  | inp (port : Byte)
  | cc (a16 : Word)
  | sbi (d8 : Byte)
  | jpo (a16 : Word)
  | cpo (a16 : Word)
  | ani (d8 : Byte)
  | jpe (a16 : Word)
  | cpe (a16 : Word)
  | xri (d8 : Byte)
  | jp (a16 : Word)
  | cp (a16 : Word)
  | ori (d8 : Byte)
  | jm (a16 : Word)
  | cm (a16 : Word)
  | cpi (d8 : Byte)
  | nop
  | staxB
  | inxB
  | inrB
  | dcrB
  | rlc
  | undoc08
  | dadB
  | ldaxB
  | dcxB
  | inrC
  | dcrC
  | rrc
  | undoc10
  | staxD
  | inxD
  | inrD
  | dcrD
  | ral
  | undoc18
  | dadD
  | ldaxD
  | dcxD
  | inrE
  | dcrE
  | rar
  | rim
  | inxH
  | inrH
  | dcrH
  | daa
  | undoc28
  | dadH
  | dcxH
  | inrL
  | dcrL
  | cma
  | sim
  | inxSP
  | inrM
  | dcrM
  | stc
  | undoc38
  | dadSP
  | dcxSP
  | inrA
  | dcrA
  | cmc
  | movBB
  | movBC
  | movBD
  | movBE
  | movBH
  | movBL
  | movBM
  | movBA
  | movCB
  | movCC
  | movCD
  | movCE
  | movCH
  | movCL
  | movCM
  | movCA
  | movDB
  | movDC
  | movDD
  | movDE
  | movDH
  | movDL
  | movDM
  | movDA
  | movEB
  | movEC
  | movED
  | movEE
  | movEH
  | movEL
  | movEM
  | movEA
  | movHB
  | movHC
  | movHD
  | movHE
  | movHH
  | movHL
  | movHM
  | movHA
  | movLB
  | movLC
  | movLD
  | movLE
  | movLH
  | movLL
  | movLM
  | movLA
  | movMB
  | movMC
  | movMD
  | movME
  | movMH
  | movML
  | hlt
  | movMA
  | movAB
  | movAC
  | movAD
  | movAE
  | movAH
  | movAL
  | movAM
  | movAA
  | addB
  | addC
  | addD
  | addE
  | addH
  | addL
  | addM
  | addA
  | adcB
  | adcC
  | adcD
  | adcE
  | adcH
  | adcL
  | adcM
  | adcA
  | subB
  | subC
  | subD
  | subE
  | subH
  | subL
  | subM
  | subA
  | sbbB
  | sbbC
  | sbbD
  | sbbE
  | sbbH
  | sbbL
  | sbbM
  | sbbA
  | anaB
  | anaC
  | anaD
  | anaE
  | anaH
  | anaL
  | anaM
  | anaA
  | xraB
  | xraC
  | xraD
  | xraE
  | xraH
  | xraL
  | xraM
  | xraA
  | oraB
  | oraC
  | oraD
  | oraE
  | oraH
  | oraL
  | oraM
  | oraA
  | cmpB
  | cmpC
  | cmpD
  | cmpE
  | cmpH
  | cmpL
  | cmpM
  | cmpA
  | rnz
  | popB
  | pushB
  | rst0
  | rz
  | ret
  | undocCB
  | rst1
  | rnc
  | popD
  | pushD
  | rst2
  | rc
  | undocD9
  | undocDD
  | rst3
  | rpo
  | popH
  | xthl
  | pushH
  | rst4
  | rpe
  | pchl
  | xchg
  | undocED
  | rst5
  | rp
  | popPSW
  | di
  | pushPSW
  | rst6
  | rm
  | sphl
  | ei
  | undocFD
  | rst7
  deriving DecidableEq, Repr

end Sys2Proof
end

