-- ==== Sys2Proof/Decode.lean ====
section
/-! DEFINITION. Decoding, total on any bytes (30_encoding R55 to R68), and after it the encoder. The decoder reads the
fields of the opcode byte as 30_encoding R57 to R63 lays them out; the encoder is the opcode table's own list of values,
so that the round trip compares the one with the other. The opcode descriptor of 40_dispatch R74 stands here too. -/

namespace Sys2Proof

/-! ## Byte order and bit fields -/

/-- `v[15:8]` of a word (00_scope R7). -/
def hiByte (w : Word) : Byte := BitVec.ofNat 8 (w.toNat / 256)

/-- `v[7:0]` of a word (00_scope R7). -/
def loByte (w : Word) : Byte := BitVec.ofNat 8 (w.toNat % 256)

/-- `hi:lo`, the word `hi*256 + lo` (00_scope R7, 20_memory R38). -/
def ofBytes (hi lo : Byte) : Word := BitVec.ofNat 16 (hi.toNat * 256 + lo.toNat)

/-- Bits 7:6 of an opcode, the first split of the map (30_encoding R63). -/
def topField (op : Byte) : Nat := op.toNat / 64

/-- Bits 5:3 of an opcode: DDD, CCC, ALU or NNN (30_encoding R57). -/
def midField (op : Byte) : Nat := op.toNat / 8 % 8

/-- Bits 2:0 of an opcode: SSS (30_encoding R57). -/
def lowField (op : Byte) : Nat := op.toNat % 8

/-- Bits 5:4 of an opcode, RP, from its bits 5:3 (30_encoding R57). -/
def rpField (mid : Nat) : Nat := mid / 2

/-! ## The codes (30_encoding R58 to R61). Each takes a field of three or two bits, so the last arm is the last code. -/

/-- 30_encoding R58. -/
def R8.ofCode : Nat → R8
  | 0 => .b
  | 1 => .c
  | 2 => .d
  | 3 => .e
  | 4 => .h
  | 5 => .l
  | 6 => .m
  | _ => .a

/-- 30_encoding R59. -/
def RegPair.ofCode : Nat → RegPair
  | 0 => .bc
  | 1 => .de
  | 2 => .hl
  | _ => .sp

/-- 30_encoding R59. -/
def StackPair.ofCode : Nat → StackPair
  | 0 => .bc
  | 1 => .de
  | 2 => .hl
  | _ => .psw

/-- 30_encoding R60. -/
def Cond.ofCode : Nat → Cond
  | 0 => .nz
  | 1 => .z
  | 2 => .nc
  | 3 => .c
  | 4 => .po
  | 5 => .pe
  | 6 => .p
  | _ => .m

/-- 30_encoding R61. -/
def AluOp.ofCode : Nat → AluOp
  | 0 => .add
  | 1 => .adc
  | 2 => .sub
  | 3 => .sbb
  | 4 => .ana
  | 5 => .xra
  | 6 => .ora
  | _ => .cmp

/-! ## The same codes as numbers, and an opcode byte from its fields (30_encoding R57 to R61) -/

/-- 30_encoding R58. -/
def R8.code : R8 → Nat
  | .b => 0 | .c => 1 | .d => 2 | .e => 3 | .h => 4 | .l => 5 | .m => 6 | .a => 7

/-- 30_encoding R59. -/
def RegPair.code : RegPair → Nat
  | .bc => 0 | .de => 1 | .hl => 2 | .sp => 3

/-- 30_encoding R59. -/
def StackPair.code : StackPair → Nat
  | .bc => 0 | .de => 1 | .hl => 2 | .psw => 3

/-- 30_encoding R59. -/
def IndexPair.code : IndexPair → Nat
  | .bc => 0 | .de => 1

/-- 30_encoding R60. -/
def Cond.code : Cond → Nat
  | .nz => 0 | .z => 1 | .nc => 2 | .c => 3 | .po => 4 | .pe => 5 | .p => 6 | .m => 7

/-- 30_encoding R61. -/
def AluOp.code : AluOp → Nat
  | .add => 0 | .adc => 1 | .sub => 2 | .sbb => 3 | .ana => 4 | .xra => 5 | .ora => 6 | .cmp => 7

/-- The opcode byte with these bits 7:6, 5:3 and 2:0. -/
def opcodeOfFields (top mid low : Nat) : Byte := BitVec.ofNat 8 (top * 64 + mid * 8 + low)

/-! ## The instruction that stands at given fields. Each name below is a family of constructors. -/

/-- 01 DDD SSS: the 63 MOV constructors, and HLT at 01 110 110 (30_encoding R63). -/
def Instr.mov : R8 → R8 → Instr
  | .b, .b => .movBB | .b, .c => .movBC | .b, .d => .movBD | .b, .e => .movBE
  | .b, .h => .movBH | .b, .l => .movBL | .b, .m => .movBM | .b, .a => .movBA
  | .c, .b => .movCB | .c, .c => .movCC | .c, .d => .movCD | .c, .e => .movCE
  | .c, .h => .movCH | .c, .l => .movCL | .c, .m => .movCM | .c, .a => .movCA
  | .d, .b => .movDB | .d, .c => .movDC | .d, .d => .movDD | .d, .e => .movDE
  | .d, .h => .movDH | .d, .l => .movDL | .d, .m => .movDM | .d, .a => .movDA
  | .e, .b => .movEB | .e, .c => .movEC | .e, .d => .movED | .e, .e => .movEE
  | .e, .h => .movEH | .e, .l => .movEL | .e, .m => .movEM | .e, .a => .movEA
  | .h, .b => .movHB | .h, .c => .movHC | .h, .d => .movHD | .h, .e => .movHE
  | .h, .h => .movHH | .h, .l => .movHL | .h, .m => .movHM | .h, .a => .movHA
  | .l, .b => .movLB | .l, .c => .movLC | .l, .d => .movLD | .l, .e => .movLE
  | .l, .h => .movLH | .l, .l => .movLL | .l, .m => .movLM | .l, .a => .movLA
  | .m, .b => .movMB | .m, .c => .movMC | .m, .d => .movMD | .m, .e => .movME
  | .m, .h => .movMH | .m, .l => .movML | .m, .m => .hlt | .m, .a => .movMA
  | .a, .b => .movAB | .a, .c => .movAC | .a, .d => .movAD | .a, .e => .movAE
  | .a, .h => .movAH | .a, .l => .movAL | .a, .m => .movAM | .a, .a => .movAA

/-- 00 DDD 110. -/
def Instr.mvi (d8 : Byte) : R8 → Instr
  | .b => .mviB d8 | .c => .mviC d8 | .d => .mviD d8 | .e => .mviE d8
  | .h => .mviH d8 | .l => .mviL d8 | .m => .mviM d8 | .a => .mviA d8

/-- 00 DDD 100. -/
def Instr.inr : R8 → Instr
  | .b => .inrB | .c => .inrC | .d => .inrD | .e => .inrE
  | .h => .inrH | .l => .inrL | .m => .inrM | .a => .inrA

/-- 00 DDD 101. -/
def Instr.dcr : R8 → Instr
  | .b => .dcrB | .c => .dcrC | .d => .dcrD | .e => .dcrE
  | .h => .dcrH | .l => .dcrL | .m => .dcrM | .a => .dcrA

/-- 10 ALU SSS. -/
def Instr.alu : AluOp → R8 → Instr
  | .add, .b => .addB | .add, .c => .addC | .add, .d => .addD | .add, .e => .addE
  | .add, .h => .addH | .add, .l => .addL | .add, .m => .addM | .add, .a => .addA
  | .adc, .b => .adcB | .adc, .c => .adcC | .adc, .d => .adcD | .adc, .e => .adcE
  | .adc, .h => .adcH | .adc, .l => .adcL | .adc, .m => .adcM | .adc, .a => .adcA
  | .sub, .b => .subB | .sub, .c => .subC | .sub, .d => .subD | .sub, .e => .subE
  | .sub, .h => .subH | .sub, .l => .subL | .sub, .m => .subM | .sub, .a => .subA
  | .sbb, .b => .sbbB | .sbb, .c => .sbbC | .sbb, .d => .sbbD | .sbb, .e => .sbbE
  | .sbb, .h => .sbbH | .sbb, .l => .sbbL | .sbb, .m => .sbbM | .sbb, .a => .sbbA
  | .ana, .b => .anaB | .ana, .c => .anaC | .ana, .d => .anaD | .ana, .e => .anaE
  | .ana, .h => .anaH | .ana, .l => .anaL | .ana, .m => .anaM | .ana, .a => .anaA
  | .xra, .b => .xraB | .xra, .c => .xraC | .xra, .d => .xraD | .xra, .e => .xraE
  | .xra, .h => .xraH | .xra, .l => .xraL | .xra, .m => .xraM | .xra, .a => .xraA
  | .ora, .b => .oraB | .ora, .c => .oraC | .ora, .d => .oraD | .ora, .e => .oraE
  | .ora, .h => .oraH | .ora, .l => .oraL | .ora, .m => .oraM | .ora, .a => .oraA
  | .cmp, .b => .cmpB | .cmp, .c => .cmpC | .cmp, .d => .cmpD | .cmp, .e => .cmpE
  | .cmp, .h => .cmpH | .cmp, .l => .cmpL | .cmp, .m => .cmpM | .cmp, .a => .cmpA

/-- 11 ALU 110. -/
def Instr.aluImm (d8 : Byte) : AluOp → Instr
  | .add => .adi d8 | .adc => .aci d8 | .sub => .sui d8 | .sbb => .sbi d8
  | .ana => .ani d8 | .xra => .xri d8 | .ora => .ori d8 | .cmp => .cpi d8

/-- 00 RP0 001. -/
def Instr.lxi (d16 : Word) : RegPair → Instr
  | .bc => .lxiB d16 | .de => .lxiD d16 | .hl => .lxiH d16 | .sp => .lxiSP d16

/-- 00 RP0 011. -/
def Instr.inx : RegPair → Instr
  | .bc => .inxB | .de => .inxD | .hl => .inxH | .sp => .inxSP

/-- 00 RP1 011. -/
def Instr.dcx : RegPair → Instr
  | .bc => .dcxB | .de => .dcxD | .hl => .dcxH | .sp => .dcxSP

/-- 00 RP1 001. -/
def Instr.dad : RegPair → Instr
  | .bc => .dadB | .de => .dadD | .hl => .dadH | .sp => .dadSP

/-- 00 0R1 010. -/
def Instr.ldax : IndexPair → Instr
  | .bc => .ldaxB | .de => .ldaxD

/-- 00 0R0 010. -/
def Instr.stax : IndexPair → Instr
  | .bc => .staxB | .de => .staxD

/-- 11 RP0 101. -/
def Instr.push : StackPair → Instr
  | .bc => .pushB | .de => .pushD | .hl => .pushH | .psw => .pushPSW

/-- 11 RP0 001. -/
def Instr.pop : StackPair → Instr
  | .bc => .popB | .de => .popD | .hl => .popH | .psw => .popPSW

/-- 11 CCC 010. -/
def Instr.jcc (a16 : Word) : Cond → Instr
  | .nz => .jnz a16 | .z => .jz a16 | .nc => .jnc a16 | .c => .jc a16
  | .po => .jpo a16 | .pe => .jpe a16 | .p => .jp a16 | .m => .jm a16

/-- 11 CCC 100. -/
def Instr.ccc (a16 : Word) : Cond → Instr
  | .nz => .cnz a16 | .z => .cz a16 | .nc => .cnc a16 | .c => .cc a16
  | .po => .cpo a16 | .pe => .cpe a16 | .p => .cp a16 | .m => .cm a16

/-- 11 CCC 000. -/
def Instr.rcc : Cond → Instr
  | .nz => .rnz | .z => .rz | .nc => .rnc | .c => .rc
  | .po => .rpo | .pe => .rpe | .p => .rp | .m => .rm

/-! ## The decoder -/

/-- The quarter 00xxxxxx of the map (30_encoding R63), by bits 5:3 and 2:0. -/
def decodeQuarter0 (mid low : Nat) (d8 : Byte) (d16 : Word) : Instr :=
  match low with
  | 0 => match mid with
    | 0 => .nop
    | 1 => .undoc08
    | 2 => .undoc10
    | 3 => .undoc18
    | 4 => .rim
    | 5 => .undoc28
    | 6 => .sim
    | _ => .undoc38
  | 1 => if mid % 2 = 0 then Instr.lxi d16 (.ofCode (rpField mid)) else Instr.dad (.ofCode (rpField mid))
  | 2 => match mid with
    | 0 => .staxB
    | 1 => .ldaxB
    | 2 => .staxD
    | 3 => .ldaxD
    | 4 => .shld d16
    | 5 => .lhld d16
    | 6 => .sta d16
    | _ => .lda d16
  | 3 => if mid % 2 = 0 then Instr.inx (.ofCode (rpField mid)) else Instr.dcx (.ofCode (rpField mid))
  | 4 => Instr.inr (.ofCode mid)
  | 5 => Instr.dcr (.ofCode mid)
  | 6 => Instr.mvi d8 (.ofCode mid)
  | _ => match mid with
    | 0 => .rlc
    | 1 => .rrc
    | 2 => .ral
    | 3 => .rar
    | 4 => .daa
    | 5 => .cma
    | 6 => .stc
    | _ => .cmc

/-- The quarter 11xxxxxx of the map (30_encoding R63), by bits 5:3 and 2:0. -/
def decodeQuarter3 (mid low : Nat) (d8 : Byte) (d16 : Word) : Instr :=
  match low with
  | 0 => Instr.rcc (.ofCode mid)
  | 1 => if mid % 2 = 0 then Instr.pop (.ofCode (rpField mid)) else match mid with
    | 1 => .ret
    | 3 => .undocD9
    | 5 => .pchl
    | _ => .sphl
  | 2 => Instr.jcc d16 (.ofCode mid)
  | 3 => match mid with
    | 0 => .jmp d16
    | 1 => .undocCB
    | 2 => .outp d8
    | 3 => .inp d8
    | 4 => .xthl
    | 5 => .xchg
    | 6 => .di
    | _ => .ei
  | 4 => Instr.ccc d16 (.ofCode mid)
  | 5 => if mid % 2 = 0 then Instr.push (.ofCode (rpField mid)) else match mid with
    | 1 => .call d16
    | 3 => .undocDD
    | 5 => .undocED
    | _ => .undocFD
  | 6 => Instr.aluImm d8 (.ofCode mid)
  | _ => match mid with
    | 0 => .rst0
    | 1 => .rst1
    | 2 => .rst2
    | 3 => .rst3
    | 4 => .rst4
    | 5 => .rst5
    | 6 => .rst6
    | _ => .rst7

/-- The instruction whose opcode byte is `op` and whose bytes 2 and 3 are `b2` and `b3` where it has them
(30_encoding R62, R63, R68). Every opcode value gives exactly one instruction; an instruction that has no byte 2 or 3
does not look at them. -/
def decodeFields (op b2 b3 : Byte) : Instr :=
  match topField op with
  | 0 => decodeQuarter0 (midField op) (lowField op) b2 (ofBytes b3 b2)
  | 1 => Instr.mov (.ofCode (midField op)) (.ofCode (lowField op))
  | 2 => Instr.alu (.ofCode (midField op)) (.ofCode (lowField op))
  | _ => decodeQuarter3 (midField op) (lowField op) b2 (ofBytes b3 b2)

/-- The number of bytes an instruction with this opcode takes, by its fields (30_encoding R55, R64). -/
def opcodeLength (op : Byte) : Nat :=
  match topField op, lowField op, midField op with
  | 0, 1, mid => if mid % 2 = 0 then 3 else 1
  | 0, 2, mid => if mid < 4 then 1 else 3
  | 0, 6, _ => 2
  | 3, 2, _ => 3
  | 3, 3, 0 => 3
  | 3, 3, 2 => 2
  | 3, 3, 3 => 2
  | 3, 4, _ => 3
  | 3, 5, 1 => 3
  | 3, 6, _ => 2
  | _, _, _ => 1

/-- Why a list of bytes is no instruction: it ends too soon. Every opcode value is defined (30_encoding R68), so there is
no other reason. -/
inductive DecodeError where
  /-- there is no opcode byte -/
  | noOpcode
  /-- the opcode takes more operand bytes than follow it -/
  | missingOperand (op : Byte)
  deriving DecidableEq, Repr

/-- The first instruction of a list of bytes and the bytes after it; a list that ends too soon is rejected by name. -/
def decode : List Byte → Except DecodeError (Instr × List Byte)
  | [] => .error .noOpcode
  | op :: rest =>
    match opcodeLength op, rest with
    | 1, rest => .ok (decodeFields op 0 0, rest)
    | 2, b2 :: rest => .ok (decodeFields op b2 0, rest)
    | 3, b2 :: b3 :: rest => .ok (decodeFields op b2 b3, rest)
    | _, _ => .error (.missingOperand op)

/-! ## The encoder, from spec/opcode_table.json -/

/-- The opcode byte of an instruction: the table's "match" of its row. -/
def Instr.opcode : Instr → Byte
  | .nop => 0x00
  | .lxiB _ => 0x01
  | .staxB => 0x02
  | .inxB => 0x03
  | .inrB => 0x04
  | .dcrB => 0x05
  | .mviB _ => 0x06
  | .rlc => 0x07
  | .undoc08 => 0x08
  | .dadB => 0x09
  | .ldaxB => 0x0A
  | .dcxB => 0x0B
  | .inrC => 0x0C
  | .dcrC => 0x0D
  | .mviC _ => 0x0E
  | .rrc => 0x0F
  | .undoc10 => 0x10
  | .lxiD _ => 0x11
  | .staxD => 0x12
  | .inxD => 0x13
  | .inrD => 0x14
  | .dcrD => 0x15
  | .mviD _ => 0x16
  | .ral => 0x17
  | .undoc18 => 0x18
  | .dadD => 0x19
  | .ldaxD => 0x1A
  | .dcxD => 0x1B
  | .inrE => 0x1C
  | .dcrE => 0x1D
  | .mviE _ => 0x1E
  | .rar => 0x1F
  | .rim => 0x20
  | .lxiH _ => 0x21
  | .shld _ => 0x22
  | .inxH => 0x23
  | .inrH => 0x24
  | .dcrH => 0x25
  | .mviH _ => 0x26
  | .daa => 0x27
  | .undoc28 => 0x28
  | .dadH => 0x29
  | .lhld _ => 0x2A
  | .dcxH => 0x2B
  | .inrL => 0x2C
  | .dcrL => 0x2D
  | .mviL _ => 0x2E
  | .cma => 0x2F
  | .sim => 0x30
  | .lxiSP _ => 0x31
  | .sta _ => 0x32
  | .inxSP => 0x33
  | .inrM => 0x34
  | .dcrM => 0x35
  | .mviM _ => 0x36
  | .stc => 0x37
  | .undoc38 => 0x38
  | .dadSP => 0x39
  | .lda _ => 0x3A
  | .dcxSP => 0x3B
  | .inrA => 0x3C
  | .dcrA => 0x3D
  | .mviA _ => 0x3E
  | .cmc => 0x3F
  | .movBB => 0x40
  | .movBC => 0x41
  | .movBD => 0x42
  | .movBE => 0x43
  | .movBH => 0x44
  | .movBL => 0x45
  | .movBM => 0x46
  | .movBA => 0x47
  | .movCB => 0x48
  | .movCC => 0x49
  | .movCD => 0x4A
  | .movCE => 0x4B
  | .movCH => 0x4C
  | .movCL => 0x4D
  | .movCM => 0x4E
  | .movCA => 0x4F
  | .movDB => 0x50
  | .movDC => 0x51
  | .movDD => 0x52
  | .movDE => 0x53
  | .movDH => 0x54
  | .movDL => 0x55
  | .movDM => 0x56
  | .movDA => 0x57
  | .movEB => 0x58
  | .movEC => 0x59
  | .movED => 0x5A
  | .movEE => 0x5B
  | .movEH => 0x5C
  | .movEL => 0x5D
  | .movEM => 0x5E
  | .movEA => 0x5F
  | .movHB => 0x60
  | .movHC => 0x61
  | .movHD => 0x62
  | .movHE => 0x63
  | .movHH => 0x64
  | .movHL => 0x65
  | .movHM => 0x66
  | .movHA => 0x67
  | .movLB => 0x68
  | .movLC => 0x69
  | .movLD => 0x6A
  | .movLE => 0x6B
  | .movLH => 0x6C
  | .movLL => 0x6D
  | .movLM => 0x6E
  | .movLA => 0x6F
  | .movMB => 0x70
  | .movMC => 0x71
  | .movMD => 0x72
  | .movME => 0x73
  | .movMH => 0x74
  | .movML => 0x75
  | .hlt => 0x76
  | .movMA => 0x77
  | .movAB => 0x78
  | .movAC => 0x79
  | .movAD => 0x7A
  | .movAE => 0x7B
  | .movAH => 0x7C
  | .movAL => 0x7D
  | .movAM => 0x7E
  | .movAA => 0x7F
  | .addB => 0x80
  | .addC => 0x81
  | .addD => 0x82
  | .addE => 0x83
  | .addH => 0x84
  | .addL => 0x85
  | .addM => 0x86
  | .addA => 0x87
  | .adcB => 0x88
  | .adcC => 0x89
  | .adcD => 0x8A
  | .adcE => 0x8B
  | .adcH => 0x8C
  | .adcL => 0x8D
  | .adcM => 0x8E
  | .adcA => 0x8F
  | .subB => 0x90
  | .subC => 0x91
  | .subD => 0x92
  | .subE => 0x93
  | .subH => 0x94
  | .subL => 0x95
  | .subM => 0x96
  | .subA => 0x97
  | .sbbB => 0x98
  | .sbbC => 0x99
  | .sbbD => 0x9A
  | .sbbE => 0x9B
  | .sbbH => 0x9C
  | .sbbL => 0x9D
  | .sbbM => 0x9E
  | .sbbA => 0x9F
  | .anaB => 0xA0
  | .anaC => 0xA1
  | .anaD => 0xA2
  | .anaE => 0xA3
  | .anaH => 0xA4
  | .anaL => 0xA5
  | .anaM => 0xA6
  | .anaA => 0xA7
  | .xraB => 0xA8
  | .xraC => 0xA9
  | .xraD => 0xAA
  | .xraE => 0xAB
  | .xraH => 0xAC
  | .xraL => 0xAD
  | .xraM => 0xAE
  | .xraA => 0xAF
  | .oraB => 0xB0
  | .oraC => 0xB1
  | .oraD => 0xB2
  | .oraE => 0xB3
  | .oraH => 0xB4
  | .oraL => 0xB5
  | .oraM => 0xB6
  | .oraA => 0xB7
  | .cmpB => 0xB8
  | .cmpC => 0xB9
  | .cmpD => 0xBA
  | .cmpE => 0xBB
  | .cmpH => 0xBC
  | .cmpL => 0xBD
  | .cmpM => 0xBE
  | .cmpA => 0xBF
  | .rnz => 0xC0
  | .popB => 0xC1
  | .jnz _ => 0xC2
  | .jmp _ => 0xC3
  | .cnz _ => 0xC4
  | .pushB => 0xC5
  | .adi _ => 0xC6
  | .rst0 => 0xC7
  | .rz => 0xC8
  | .ret => 0xC9
  | .jz _ => 0xCA
  | .undocCB => 0xCB
  | .cz _ => 0xCC
  | .call _ => 0xCD
  | .aci _ => 0xCE
  | .rst1 => 0xCF
  | .rnc => 0xD0
  | .popD => 0xD1
  | .jnc _ => 0xD2
  | .outp _ => 0xD3
  | .cnc _ => 0xD4
  | .pushD => 0xD5
  | .sui _ => 0xD6
  | .rst2 => 0xD7
  | .rc => 0xD8
  | .undocD9 => 0xD9
  | .jc _ => 0xDA
  | .inp _ => 0xDB
  | .cc _ => 0xDC
  | .undocDD => 0xDD
  | .sbi _ => 0xDE
  | .rst3 => 0xDF
  | .rpo => 0xE0
  | .popH => 0xE1
  | .jpo _ => 0xE2
  | .xthl => 0xE3
  | .cpo _ => 0xE4
  | .pushH => 0xE5
  | .ani _ => 0xE6
  | .rst4 => 0xE7
  | .rpe => 0xE8
  | .pchl => 0xE9
  | .jpe _ => 0xEA
  | .xchg => 0xEB
  | .cpe _ => 0xEC
  | .undocED => 0xED
  | .xri _ => 0xEE
  | .rst5 => 0xEF
  | .rp => 0xF0
  | .popPSW => 0xF1
  | .jp _ => 0xF2
  | .di => 0xF3
  | .cp _ => 0xF4
  | .pushPSW => 0xF5
  | .ori _ => 0xF6
  | .rst6 => 0xF7
  | .rm => 0xF8
  | .sphl => 0xF9
  | .jm _ => 0xFA
  | .ei => 0xFB
  | .cm _ => 0xFC
  | .undocFD => 0xFD
  | .cpi _ => 0xFE
  | .rst7 => 0xFF

/-- Bytes 2 and 3 of an instruction, low byte first (30_encoding R56, R62). -/
def Instr.operandBytes : Instr → List Byte
  | .mviB v | .mviC v | .mviD v | .mviE v | .mviH v | .mviL v | .mviM v | .mviA v | .adi v | .aci v | .outp v
  | .sui v | .inp v | .sbi v | .ani v | .xri v | .ori v | .cpi v => [v]
  | .lxiB w | .lxiD w | .lxiH w | .shld w | .lhld w | .lxiSP w | .sta w | .lda w | .jnz w | .jmp w | .cnz w
  | .jz w | .cz w | .call w | .jnc w | .cnc w | .jc w | .cc w | .jpo w | .cpo w | .jpe w | .cpe w | .jp w
  | .cp w | .jm w | .cm w => [loByte w, hiByte w]
  | .nop | .staxB | .inxB | .inrB | .dcrB | .rlc | .undoc08 | .dadB | .ldaxB | .dcxB | .inrC | .dcrC | .rrc
  | .undoc10 | .staxD | .inxD | .inrD | .dcrD | .ral | .undoc18 | .dadD | .ldaxD | .dcxD | .inrE | .dcrE
  | .rar | .rim | .inxH | .inrH | .dcrH | .daa | .undoc28 | .dadH | .dcxH | .inrL | .dcrL | .cma | .sim
  | .inxSP | .inrM | .dcrM | .stc | .undoc38 | .dadSP | .dcxSP | .inrA | .dcrA | .cmc | .movBB | .movBC
  | .movBD | .movBE | .movBH | .movBL | .movBM | .movBA | .movCB | .movCC | .movCD | .movCE | .movCH | .movCL
  | .movCM | .movCA | .movDB | .movDC | .movDD | .movDE | .movDH | .movDL | .movDM | .movDA | .movEB | .movEC
  | .movED | .movEE | .movEH | .movEL | .movEM | .movEA | .movHB | .movHC | .movHD | .movHE | .movHH | .movHL
  | .movHM | .movHA | .movLB | .movLC | .movLD | .movLE | .movLH | .movLL | .movLM | .movLA | .movMB | .movMC
  | .movMD | .movME | .movMH | .movML | .hlt | .movMA | .movAB | .movAC | .movAD | .movAE | .movAH | .movAL
  | .movAM | .movAA | .addB | .addC | .addD | .addE | .addH | .addL | .addM | .addA | .adcB | .adcC | .adcD
  | .adcE | .adcH | .adcL | .adcM | .adcA | .subB | .subC | .subD | .subE | .subH | .subL | .subM | .subA
  | .sbbB | .sbbC | .sbbD | .sbbE | .sbbH | .sbbL | .sbbM | .sbbA | .anaB | .anaC | .anaD | .anaE | .anaH
  | .anaL | .anaM | .anaA | .xraB | .xraC | .xraD | .xraE | .xraH | .xraL | .xraM | .xraA | .oraB | .oraC
  | .oraD | .oraE | .oraH | .oraL | .oraM | .oraA | .cmpB | .cmpC | .cmpD | .cmpE | .cmpH | .cmpL | .cmpM
  | .cmpA | .rnz | .popB | .pushB | .rst0 | .rz | .ret | .undocCB | .rst1 | .rnc | .popD | .pushD | .rst2
  | .rc | .undocD9 | .undocDD | .rst3 | .rpo | .popH | .xthl | .pushH | .rst4 | .rpe | .pchl | .xchg
  | .undocED | .rst5 | .rp | .popPSW | .di | .pushPSW | .rst6 | .rm | .sphl | .ei | .undocFD | .rst7 => []

/-- The bytes of an instruction, in the order they stand in memory (30_encoding R56). -/
def encode (i : Instr) : List Byte := i.opcode :: i.operandBytes

/-! ## The opcode descriptor (40_dispatch R74): tier, flag-effect set and (above) length, each a pure function of the
opcode value. The addressing mode and the operation are the instruction's meaning under Machine/. -/

/-- 30_encoding R65. -/
inductive Tier where
  | source
  | unnamed
  | unsupported
  deriving DecidableEq, Repr

/-- The tier of an opcode, by its fields (30_encoding R65, R66). -/
def opcodeTier (op : Byte) : Tier :=
  match topField op, lowField op, midField op with
  | 0, 0, 0 => .source
  | 0, 0, _ => .unsupported
  | 0, 1, mid => if mid % 2 = 0 then .unnamed else .source
  | 0, 7, 4 => .unnamed
  | 3, 0, _ => .unnamed
  | 3, 1, 3 => .unsupported
  | 3, 1, 7 => .unnamed
  | 3, 2, 4 => .unnamed
  | 3, 2, 5 => .unnamed
  | 3, 3, 1 => .unsupported
  | 3, 3, 4 => .unnamed
  | 3, 3, 5 => .unnamed
  | 3, 3, 6 => .unsupported
  | 3, 3, 7 => .unsupported
  | 3, 4, _ => .unnamed
  | 3, 5, 1 => .unnamed
  | 3, 5, mid => if mid % 2 = 0 then .source else .unsupported
  | 3, 7, _ => .unsupported
  | _, _, _ => .source

/-- A set of flags, one Bool each. -/
structure FlagSet where
  z : Bool
  s : Bool
  p : Bool
  cy : Bool
  ac : Bool
  deriving DecidableEq, Repr

/-- The flags an opcode's instruction writes (the table of 10_state section 3; for INR and DCR, CY is written only where
`incDecWritesCarry` says so). -/
def opcodeFlags (incDecWritesCarry : Bool) (op : Byte) : FlagSet :=
  match topField op, lowField op with
  | 2, _ => ⟨true, true, true, true, true⟩
  | 3, 6 => ⟨true, true, true, true, true⟩
  | 0, 4 => ⟨true, true, true, incDecWritesCarry, true⟩
  | 0, 5 => ⟨true, true, true, incDecWritesCarry, true⟩
  | 0, 7 => match midField op with
    | 4 => ⟨true, true, true, true, true⟩
    | 5 => ⟨false, false, false, false, false⟩
    | _ => ⟨false, false, false, true, false⟩
  | 0, 1 => ⟨false, false, false, midField op % 2 == 1, false⟩
  | 3, 1 => if op = 0xF1 then ⟨true, true, true, true, true⟩ else ⟨false, false, false, false, false⟩
  | _, _ => ⟨false, false, false, false, false⟩

/-- The tier of an instruction. -/
def Instr.tier (i : Instr) : Tier := opcodeTier i.opcode

/-- The length of an instruction in bytes. -/
def Instr.length (i : Instr) : Nat := opcodeLength i.opcode

/-! ## The host's entry -/

/-- The bytes of a table word: bit 0 is the least significant bit of the first byte, every bit above `nbits` is 0, and
the longest instruction has three bytes. -/
def tableBytes (nbits w : Nat) : Byte × Byte × Byte :=
  let v := w % 2 ^ nbits
  (BitVec.ofNat 8 v, BitVec.ofNat 8 (v / 256), BitVec.ofNat 8 (v / 65536))

/-- The instruction the decoder reads from the bits of a row of spec/opcode_table.json. -/
def decodeTableWord (nbits w : Nat) : Option Instr :=
  match tableBytes nbits w with
  | (b1, b2, b3) =>
    match decode [b1, b2, b3] with
    | .ok (i, _) => some i
    | .error _ => none

end Sys2Proof
end

