-- ==== Sys2Proof/Config.lean ====
section
/-! DEFINITION. The named parameters a model takes (00_scope R6), with the default the spec chooses for each. They are
kept as plain data, so that a statement holds for every choice of them (log entry 1). -/

namespace Sys2Proof

/-- What an opcode of tier `unnamed` does: 00_scope R6, 40_dispatch R75, decision D2. -/
inductive UnnamedTierPolicy where
  | execute
  | unsupported
  | refuse
  deriving DecidableEq, Repr

/-- How AC is formed after a subtraction: 00_scope R6, 42_arithmetic R94, decision D5. -/
inductive SubAuxCarry where
  | borrow
  | carry8080
  deriving DecidableEq, Repr

/-- The parameters of 00_scope R6. `fill5`, `fill3` and `fill1` are the three bits of `pswFillBits` (decision D7).
`resetMemoryImage` is the host's persisted preload where one exists (decision D10). It is a list of naturals, not of
bytes, because the spec lets a persisted image be malformed: wrong in length or in the range of an entry (20_memory R53). -/
structure Config where
  unnamedTierPolicy : UnnamedTierPolicy
  subAuxCarry : SubAuxCarry
  incDecWritesCarry : Bool
  fill5 : Bool
  fill3 : Bool
  fill1 : Bool
  resetMemoryImage : Option (List Nat)
  deriving DecidableEq, Repr

/-- The default column of 00_scope R6. -/
def Config.default : Config where
  unnamedTierPolicy := .execute
  subAuxCarry := .borrow
  incDecWritesCarry := false
  fill5 := false
  fill3 := false
  fill1 := false
  resetMemoryImage := none

end Sys2Proof
end

