-- ==== Sys2Proof/Machine/State.lean ====
section
/-! DEFINITION. The state, as plain data: everything 10_state gives the machine, the events in flight to the host, the
parameters of 00_scope R6, and the host's moves still to come. -/

namespace Sys2Proof.Machine

/-- The register file (10_state R13): seven independent 8-bit registers. The pairs BC, DE, HL are views of it (R14). -/
structure Regs where
  a : Byte
  b : Byte
  c : Byte
  d : Byte
  e : Byte
  h : Byte
  l : Byte
  deriving DecidableEq, Repr

/-- The flag unit (10_state R18): five independent 1-bit fields. -/
structure Flags where
  z : Bool
  s : Bool
  p : Bool
  cy : Bool
  ac : Bool
  deriving DecidableEq, Repr

/-- The two ways the host drives a run (10_state R28). -/
inductive Mode where
  | step
  | run
  deriving DecidableEq, Repr

/-- The execution controller's state (10_state R28). `mode` has a value only while RUNNING (10_state R32), so it is
stored in that case (log entry 29). -/
inductive Ctrl where
  | ready
  | running (m : Mode)
  | halted
  | paused
  deriving DecidableEq, Repr

/-- The events the core sends to the host (00_scope R10, 60_exceptions R164, 20_memory R54). -/
inductive Event where
  /-- an opcode with no defined instruction was fetched; the recorded value is the opcode byte -/
  | unsupportedOpcode (op : Byte)
  /-- STA stored to this address -/
  | persistHint (addr : Word)
  deriving DecidableEq, Repr

/-- What the host can do between two steps of the core (60_exceptions R180, 20_memory R52, R53). Addresses and port
numbers are naturals, reduced by the operation as those rules say; an image is a list of naturals because a persisted
image may be malformed (20_memory R53). The reading operations change nothing and are functions (Machine/HostOps.lean). -/
inductive HostMove where
  /-- the host makes no move and lets the core take its next step (70_reset R194: the host keeps stepping it) -/
  | proceed
  | load (bytes : List Byte) (address : Nat)
  | poke (address : Nat) (value : Byte)
  | setPc (address : Nat)
  | setInputPort (port : Nat) (value : Byte)
  | restore (image : List Nat)
  | requestRun
  | requestStep
  | requestBreak
  | requestReset
  /-- the host takes delivery of the events in flight (60_exceptions R180: one-way, after the step that raised them) -/
  | receiveEvents
  deriving DecidableEq, Repr

/-- A memory or a port bank: the cells that do not read 0x00, addresses strictly rising (log entry 30). What an unlisted
address reads as is 0x00, the reset content of 10_state R32. -/
abbrev Memory := List Host.Cell

/-- The machine's state. `cfg` is fixed for a machine; `hostMoves` is the host's script, oldest move first, and when it
is empty the host makes no move. -/
structure State where
  regs : Regs
  sp : Word
  pc : Word
  flags : Flags
  mem : Memory
  inPort : Memory
  outPort : Memory
  halted : Bool
  ctrl : Ctrl
  breakPending : Bool
  events : List Event
  cfg : Config
  hostMoves : List HostMove
  deriving DecidableEq, Repr

/-- Why the machine stops with a fault: never. Every memory address and port number is reduced before use, so an access
out of range cannot occur, and no error is fatal (60_exceptions R165, R166); there is no trap (R169). Nobody raises a
fault; that there is none is the spec's own rule, so it is neither safe nor unsafe. -/
inductive Fault where
  deriving DecidableEq, Repr

/-- Why a step has no meaning. -/
inductive Refusal where
  /-- Raised by an arm of exec whose instruction has no meaning yet; no arm raises it. Safe. -/
  | notModelled (mnemonic : String)
  /-- Raised by `perform` for an opcode of tier `unnamed` where the parameter `unnamedTierPolicy` is `refuse`:
  REFUSE(op, addr) of 40_dispatch R70 and R75. Safe: it errs toward unprovable (R75). -/
  | unnamedTier (op : Byte) (addr : Word)
  /-- Raised by the host's moves: this move is not allowed in the controller's current state (60_exceptions R180; the
  last row of 93_implementation_defined section 1: the host has no such move). Safe. -/
  | hostMoveNotAllowed (move : HostMove)
  deriving DecidableEq, Repr

/-- The machine right after reset (10_state R32, 70_reset R188, R189), with the default parameters of 00_scope R6: no
preload, so every memory byte reads 0x00. -/
def State.reset : State where
  regs := { a := 0, b := 0, c := 0, d := 0, e := 0, h := 0, l := 0 }
  sp := 0
  pc := 0
  flags := { z := false, s := false, p := false, cy := false, ac := false }
  mem := []
  inPort := []
  outPort := []
  halted := false
  ctrl := .ready
  breakPending := false
  events := []
  cfg := .default
  hostMoves := []

end Sys2Proof.Machine
end

