-- ==== Sys2Proof/Machine/Ops.lean ====
section
/-! DEFINITION. The named operations over memory, ports, registers, the stack and the events, the instruction fetch, and
the one shared frame of every instruction's transaction. This hardware takes no exception and has no return from one
(60_exceptions R169, R170); its one synchronous event is `raiseUnsupported`. -/

namespace Sys2Proof.Machine

/-- The answer of an instruction's meaning and of a step. -/
abbrev Result := Host.Outcome State Fault Refusal

/-! ## Memory and port banks as cells -/

/-- The byte a cell list holds at a key; an unlisted key reads 0x00 (10_state R32). -/
def Memory.read : Memory → Nat → Byte
  | [], _ => 0
  | (k, v) :: rest, a => if k = a then v else Memory.read rest a

/-- The cells without the one at `a`. -/
def Memory.erase : Memory → Nat → Memory
  | [], _ => []
  | (k, v) :: rest, a => if k = a then Memory.erase rest a else (k, v) :: Memory.erase rest a

/-- Puts a cell before the first one with a key not below it. -/
def Memory.insert : Memory → Nat → Byte → Memory
  | [], a, v => [(a, v)]
  | (k, w) :: rest, a, v => if k < a then (k, w) :: Memory.insert rest a v else (a, v) :: (k, w) :: rest

/-- Writes one byte and keeps the canonical form: writing 0x00 leaves the key unlisted. -/
def Memory.write (m : Memory) (a : Nat) (v : Byte) : Memory :=
  if v = 0 then m.erase a else (m.erase a).insert a v

/-- The canonical form of a cell list over the keys below `bound`: keys strictly rising, none with the value an unlisted
key reads as. -/
abbrev Memory.wfBelow (bound : Nat) (m : Memory) : Prop :=
  m.Pairwise (fun x y => x.1 < y.1) ∧ ∀ x ∈ m, x.1 < bound ∧ x.2 ≠ 0

/-- The canonical form of the 65536-byte memory (20_memory R35). -/
abbrev Memory.wf (m : Memory) : Prop := Memory.wfBelow 65536 m

/-- The canonical form of a 256-byte port bank (20_memory R36). -/
abbrev Memory.portWf (m : Memory) : Prop := Memory.wfBelow 256 m

/-! ## Reads and writes of the state's memory and ports (00_scope R9) -/

/-- MemRead(a, 1). The address is 16 bits wide, so it is reduced modulo 65536 (20_memory R40). -/
def State.readByte (s : State) (a : Word) : Byte := s.mem.read a.toNat

/-- MemWrite(a, 1, v). It changes only the addressed byte (20_memory R42). -/
def State.writeByte (s : State) (a : Word) (v : Byte) : State := { s with mem := s.mem.write a.toNat v }

/-- MemRead(a, 2): the low byte at `a`, the high byte at `a + 1` modulo 65536 (20_memory R38, R39). -/
def State.readWord (s : State) (a : Word) : Word := ofBytes (s.readByte (a + 1)) (s.readByte a)

/-- MemWrite(a, 2, v): the low byte first (00_scope R9). -/
def State.writeWord (s : State) (a : Word) (v : Word) : State :=
  (s.writeByte a (loByte v)).writeByte (a + 1) (hiByte v)

/-- inPort[n] (10_state R26). -/
def State.readInPort (s : State) (n : Byte) : Byte := s.inPort.read n.toNat

/-- outPort[n] (10_state R26). -/
def State.readOutPort (s : State) (n : Byte) : Byte := s.outPort.read n.toNat

/-- outPort[n] <- v; it changes only outPort[n] (20_memory R42). -/
def State.writeOutPort (s : State) (n : Byte) (v : Byte) : State := { s with outPort := s.outPort.write n.toNat v }

/-! ## Named updates -/

/-- PC <- (PC + n) mod 65536 (10_state R17). -/
def State.advance (s : State) (n : Nat) : State := { s with pc := s.pc + BitVec.ofNat 16 n }

/-- PC <- target (00_scope R10). -/
def State.setPc (s : State) (target : Word) : State := { s with pc := target }

/-- SP <- v (10_state R16). -/
def State.setSp (s : State) (v : Word) : State := { s with sp := v }

/-- A <- v (10_state R13). -/
def State.setA (s : State) (v : Byte) : State := { s with regs := { s.regs with a := v } }

/-- Writes the flag unit whole; a meaning keeps the flags its rule does not list (10_state R19). -/
def State.setFlags (s : State) (f : Flags) : State := { s with flags := f }

/-- Sends an event to the host, after those already in flight (00_scope R10). -/
def State.emit (s : State) (e : Event) : State := { s with events := s.events ++ [e] }

/-- raise UnsupportedOpcode(op): it transfers no control and saves no state (00_scope R10, 60_exceptions R164). -/
def State.raiseUnsupported (s : State) (op : Byte) : State := s.emit (.unsupportedOpcode op)

/-- The cause code of an event: 0 for UnsupportedOpcode, the only cause (60_exceptions R164, decision D24); the
persistence hint is no error and has none (R168). -/
def Event.causeCode : Event → Option Nat
  | .unsupportedOpcode _ => some 0
  | .persistHint _ => none

/-! ## The stack (40_dispatch R78) -/

/-- Push16(v): SP - 1 receives the high byte, SP - 2 the low byte. -/
def State.push16 (s : State) (v : Word) : State :=
  let s1 := s.setSp (s.sp - 1)
  let s2 := s1.writeByte s1.sp (hiByte v)
  let s3 := s2.setSp (s2.sp - 1)
  s3.writeByte s3.sp (loByte v)

/-- The word Pop16() returns: the low byte at SP, the high byte at SP + 1. -/
def State.top16 (s : State) : Word := s.readWord s.sp

/-- What Pop16() does to the state: SP ends 2 higher. -/
def State.drop16 (s : State) : State := s.setSp (s.sp + 1 + 1)

/-! ## Fetch and dispatch (40_dispatch R70, R71) -/

/-- The instruction that stands at PC. Its bytes are at PC, PC + 1 and PC + 2 modulo 65536 (10_state R17); all of them
are read before its effect (R71, decision D13), and reading has no side effect (20_memory R42), so the bytes that a
shorter instruction does not have are read here and not looked at. -/
def State.fetchInstr (s : State) : Instr :=
  decodeFields (s.readByte s.pc) (s.readByte (s.pc + 1)) (s.readByte (s.pc + 2))

/-- What dispatch does with an opcode (40_dispatch R70). -/
inductive DispatchAction where
  | execute
  | raise
  | refuse
  deriving DecidableEq, Repr

/-- The choice of 40_dispatch R70 and R75, by the opcode's tier and `unnamedTierPolicy`. -/
def dispatchAction : Tier → UnnamedTierPolicy → DispatchAction
  | .source, _ => .execute
  | .unsupported, _ => .raise
  | .unnamed, .execute => .execute
  | .unnamed, .unsupported => .raise
  | .unnamed, .refuse => .refuse

/-- The whole transaction of one instruction (40_dispatch R70), from the state whose PC is at its opcode byte: the opcode
fetch advances PC by 1; an unsupported opcode raises its event and does nothing else (R73); otherwise the operand fetch
advances PC past the operands and the instruction's effect follows. `effect` is the pseudocode of the instruction's rule,
which starts there (00_scope R12). -/
def perform (i : Instr) (effect : State → State) (s : State) : Result :=
  let fetched := s.advance 1
  match dispatchAction i.tier s.cfg.unnamedTierPolicy with
  | .execute => .next (effect (fetched.advance (i.length - 1)))
  | .raise => .next (fetched.raiseUnsupported i.opcode)
  | .refuse => .refused (.unnamedTier i.opcode s.pc)

end Sys2Proof.Machine
end

