-- ==== Sys2Proof/Machine/Operands.lean ====
section
/-! DEFINITION. The operand forms (40_dispatch R76, R77; 10_state R14, R15): register codes with M, register pairs, the
word of a stack pair. Immediates and direct addresses are the instruction's own operands, and the stack is in Ops. -/

namespace Sys2Proof.Machine

/-! ## Register pairs (10_state R14) -/

/-- BC = B<<8 | C. -/
def Regs.bc (r : Regs) : Word := ofBytes r.b r.c

/-- DE = D<<8 | E. -/
def Regs.de (r : Regs) : Word := ofBytes r.d r.e

/-- HL = H<<8 | L. -/
def Regs.hl (r : Regs) : Word := ofBytes r.h r.l

/-- BC <- v: `v[15:8]` to B, `v[7:0]` to C. -/
def Regs.setBc (r : Regs) (v : Word) : Regs := { r with b := hiByte v, c := loByte v }

/-- DE <- v. -/
def Regs.setDe (r : Regs) (v : Word) : Regs := { r with d := hiByte v, e := loByte v }

/-- HL <- v. -/
def Regs.setHl (r : Regs) (v : Word) : Regs := { r with h := hiByte v, l := loByte v }

/-- pair(rp) for BC, DE, HL and SP (10_state R14). -/
def State.readPair (s : State) : RegPair → Word
  | .bc => s.regs.bc
  | .de => s.regs.de
  | .hl => s.regs.hl
  | .sp => s.sp

/-- pair(rp) <- v (10_state R14). -/
def State.writePair (s : State) (rp : RegPair) (v : Word) : State :=
  match rp with
  | .bc => { s with regs := s.regs.setBc v }
  | .de => { s with regs := s.regs.setDe v }
  | .hl => { s with regs := s.regs.setHl v }
  | .sp => s.setSp v

/-- The address pair of LDAX and STAX (10_state R15). -/
def State.readIndexPair (s : State) : IndexPair → Word
  | .bc => s.regs.bc
  | .de => s.regs.de

/-! ## Register codes (40_dispatch R77) -/

/-- ReadR(c): a register, or the memory byte at HL for code 110. -/
def State.readR (s : State) : R8 → Byte
  | .b => s.regs.b
  | .c => s.regs.c
  | .d => s.regs.d
  | .e => s.regs.e
  | .h => s.regs.h
  | .l => s.regs.l
  | .m => s.readByte s.regs.hl
  | .a => s.regs.a

/-- WriteR(c, v): a register, or the memory byte at HL for code 110. -/
def State.writeR (s : State) (r : R8) (v : Byte) : State :=
  match r with
  | .b => { s with regs := { s.regs with b := v } }
  | .c => { s with regs := { s.regs with c := v } }
  | .d => { s with regs := { s.regs with d := v } }
  | .e => { s with regs := { s.regs with e := v } }
  | .h => { s with regs := { s.regs with h := v } }
  | .l => { s with regs := { s.regs with l := v } }
  | .m => s.writeByte s.regs.hl v
  | .a => { s with regs := { s.regs with a := v } }

end Sys2Proof.Machine
end

