-- ==== Sys2Proof/Machine/Flags.lean ====
section
/-! DEFINITION. The ALU and the flag unit: the flag helpers (00_scope R11), the adder and the subtracter (42_arithmetic
R93, R94), the logic unit, decimal adjust, the rotates, the flag byte (10_state R24) and the conditions (40_dispatch
R79). -/

namespace Sys2Proof.Machine

/-! ## Z, S, P of a result byte (00_scope R11; 10_state R20 to R22) -/

/-- The number of bits set in a byte. -/
def popcount (r : Byte) : Nat :=
  (r.getLsbD 0).toNat + (r.getLsbD 1).toNat + (r.getLsbD 2).toNat + (r.getLsbD 3).toNat +
  (r.getLsbD 4).toNat + (r.getLsbD 5).toNat + (r.getLsbD 6).toNat + (r.getLsbD 7).toNat

/-- Zf(r). -/
def zeroFlag (r : Byte) : Bool := decide (r = 0)

/-- Sf(r) = r[7]. -/
def signFlag (r : Byte) : Bool := r.getLsbD 7

/-- Pf(r): 1 iff popcount(r) is even. -/
def parityFlag (r : Byte) : Bool := popcount r % 2 == 0

/-- setZSP(r); CY and AC keep their values. -/
def Flags.setZSP (f : Flags) (r : Byte) : Flags :=
  { f with z := zeroFlag r, s := signFlag r, p := parityFlag r }

/-! ## The adder and the subtracter -/

/-- What the adder, the subtracter and decimal adjust give: the result byte and the two carries. -/
structure AluResult where
  r : Byte
  cy : Bool
  ac : Bool
  deriving DecidableEq, Repr

/-- The low nibble of a byte. -/
def lowNibble (b : Byte) : Nat := b.toNat % 16

/-- AddALU(a, b, cin), computed on naturals (42_arithmetic R93). -/
def addAlu (a b : Byte) (cin : Bool) : AluResult :=
  let t := a.toNat + b.toNat + cin.toNat
  { r := BitVec.ofNat 8 t
    cy := decide (t > 255)
    ac := decide (lowNibble a + lowNibble b + cin.toNat > 15) }

/-- AC of a subtraction from its nibble borrow (42_arithmetic R94, R104; decision D5). -/
def auxFromBorrow : SubAuxCarry → Bool → Bool
  | .borrow, nb => nb
  | .carry8080, nb => !nb

/-- SubALU(a, b, bin), computed on integers (42_arithmetic R94). -/
def subAlu (mode : SubAuxCarry) (a b : Byte) (bin : Bool) : AluResult :=
  let t : Int := (a.toNat : Int) - b.toNat - bin.toNat
  let nb : Int := (lowNibble a : Int) - lowNibble b - bin.toNat
  { r := BitVec.ofInt 8 t
    cy := decide (t < 0)
    ac := auxFromBorrow mode (decide (nb < 0)) }

/-- The flags after an adder or subtracter result: setZSP(r); CY <- cy; AC <- ac. -/
def AluResult.flags (x : AluResult) : Flags :=
  { z := zeroFlag x.r, s := signFlag x.r, p := parityFlag x.r, cy := x.cy, ac := x.ac }

/-- The flags after AND, XOR, OR: setZSP(r); CY <- 0; AC <- ac (43_logical R109 to R114; decision D4). -/
def logicFlags (r : Byte) (ac : Bool) : Flags :=
  { z := zeroFlag r, s := signFlag r, p := parityFlag r, cy := false, ac := ac }

/-- The flags after INR of a byte `v` (42_arithmetic R103): AC is the carry out of bit 3; CY is written only where
`incDecWritesCarry` says so (decision D6). -/
def incFlags (cfg : Config) (f : Flags) (v : Byte) : Flags :=
  { f.setZSP (v + 1) with
    ac := decide (lowNibble v = 15)
    cy := if cfg.incDecWritesCarry then decide (v = 0xFF) else f.cy }

/-- The flags after DCR of a byte `v` (42_arithmetic R104; decisions D5, D6). -/
def decFlags (cfg : Config) (f : Flags) (v : Byte) : Flags :=
  { f.setZSP (v - 1) with
    ac := auxFromBorrow cfg.subAuxCarry (decide (lowNibble v = 0))
    cy := if cfg.incDecWritesCarry then decide (v = 0) else f.cy }

/-! ## Decimal adjust (42_arithmetic R108; decision D9) -/

/-- The correction DAA adds: 0x06 for the low nibble, 0x60 for the high one. -/
def daaCorrection (a : Byte) (cy ac : Bool) : Nat :=
  (if lowNibble a > 9 ∨ ac = true then 0x06 else 0) + (if a.toNat > 0x99 ∨ cy = true then 0x60 else 0)

/-- DAA of A with the carries before it. CY is never cleared. -/
def daaAlu (a : Byte) (cy ac : Bool) : AluResult :=
  let corr := daaCorrection a cy ac
  { r := BitVec.ofNat 8 (a.toNat + corr)
    cy := cy || decide (a.toNat > 0x99)
    ac := decide (lowNibble a + corr % 16 > 15) }

/-! ## Rotates (43_logical R117 to R120): the rotated byte and the new CY -/

/-- `((a << 1) mod 256) | c`, with `c` entering bit 0. -/
def shiftLeftIn (a : Byte) (c : Bool) : Byte := BitVec.ofNat 8 (a.toNat * 2 % 256 + c.toNat)

/-- `(a >> 1) | (c << 7)`, with `c` entering bit 7. -/
def shiftRightIn (a : Byte) (c : Bool) : Byte := BitVec.ofNat 8 (a.toNat / 2 + c.toNat * 128)

/-! ## The flag byte (10_state R24; decision D7) -/

/-- FlagByte(): S, Z, f5, AC, f3, P, f1, CY from bit 7 down. -/
def flagByte (cfg : Config) (f : Flags) : Byte :=
  BitVec.ofNat 8 (f.s.toNat * 128 + f.z.toNat * 64 + cfg.fill5.toNat * 32 + f.ac.toNat * 16 +
    cfg.fill3.toNat * 8 + f.p.toNat * 4 + cfg.fill1.toNat * 2 + f.cy.toNat)

/-- SetFlagByte(b): bits 5, 3 and 1 are discarded. -/
def flagsOfByte (b : Byte) : Flags :=
  { s := b.getLsbD 7, z := b.getLsbD 6, ac := b.getLsbD 4, p := b.getLsbD 2, cy := b.getLsbD 0 }

/-! ## Conditions (40_dispatch R79) -/

/-- Cond(ccc), on the flags as they stand before the instruction. -/
def Flags.holds (f : Flags) : Cond → Bool
  | .nz => !f.z
  | .z => f.z
  | .nc => !f.cy
  | .c => f.cy
  | .po => !f.p
  | .pe => f.p
  | .p => !f.s
  | .m => f.s

end Sys2Proof.Machine
end

