-- ==== Sys2Proof/Machine/Arithmetic.lean ====
section
/-! DEFINITION. Arithmetic (42_arithmetic R95 to R108). The adder, the subtracter and the flag computations are in
Flags; each effect below is the pseudocode of its rule, on the state after the operand fetch. -/

namespace Sys2Proof.Machine

/-- An accumulator operation on the operand a register code names (40_dispatch R77). -/
def regEffect (effect : Byte → State → State) (src : R8) (s : State) : State := effect (s.readR src) s

/-- A <- r; setZSP(r); CY <- cy; AC <- ac. -/
def State.setResult (s : State) (x : AluResult) : State := (s.setA x.r).setFlags x.flags

/-- R95 (ADD), R99 (ADI). -/
def addEffect (v : Byte) (s : State) : State := s.setResult (addAlu s.regs.a v false)

/-- R96 (ADC), R100 (ACI): the carry-in is CY before the instruction. -/
def adcEffect (v : Byte) (s : State) : State := s.setResult (addAlu s.regs.a v s.flags.cy)

/-- R97 (SUB), R101 (SUI). -/
def subEffect (v : Byte) (s : State) : State := s.setResult (subAlu s.cfg.subAuxCarry s.regs.a v false)

/-- R98 (SBB), R102 (SBI): the borrow-in is CY before the instruction. -/
def sbbEffect (v : Byte) (s : State) : State := s.setResult (subAlu s.cfg.subAuxCarry s.regs.a v s.flags.cy)

/-- R103 (INR). -/
def inrEffect (dst : R8) (s : State) : State :=
  (s.writeR dst (s.readR dst + 1)).setFlags (incFlags s.cfg s.flags (s.readR dst))

/-- R104 (DCR). -/
def dcrEffect (dst : R8) (s : State) : State :=
  (s.writeR dst (s.readR dst - 1)).setFlags (decFlags s.cfg s.flags (s.readR dst))

/-- pair(rp) <- (pair(rp) + 1) mod 65536: R105; no flag. -/
def inxEffect (rp : RegPair) (s : State) : State := s.writePair rp (s.readPair rp + 1)

/-- pair(rp) <- (pair(rp) - 1) mod 65536: R106; no flag. -/
def dcxEffect (rp : RegPair) (s : State) : State := s.writePair rp (s.readPair rp - 1)

/-- HL <- (HL + pair(rp)) mod 65536 and CY from the 17-bit sum: R107; no other flag. -/
def dadEffect (rp : RegPair) (s : State) : State :=
  let t := s.regs.hl.toNat + (s.readPair rp).toNat
  (s.writePair .hl (BitVec.ofNat 16 t)).setFlags { s.flags with cy := decide (t > 65535) }

/-- R108 (DAA). -/
def daaEffect (s : State) : State := s.setResult (daaAlu s.regs.a s.flags.cy s.flags.ac)


/-- ADD B, 0x80 (R95). -/
def execAddB (s : State) : Result := perform .addB (regEffect addEffect .b) s

/-- ADD C, 0x81 (R95). -/
def execAddC (s : State) : Result := perform .addC (regEffect addEffect .c) s

/-- ADD D, 0x82 (R95). -/
def execAddD (s : State) : Result := perform .addD (regEffect addEffect .d) s

/-- ADD E, 0x83 (R95). -/
def execAddE (s : State) : Result := perform .addE (regEffect addEffect .e) s

/-- ADD H, 0x84 (R95). -/
def execAddH (s : State) : Result := perform .addH (regEffect addEffect .h) s

/-- ADD L, 0x85 (R95). -/
def execAddL (s : State) : Result := perform .addL (regEffect addEffect .l) s

/-- ADD M, 0x86 (R95). -/
def execAddM (s : State) : Result := perform .addM (regEffect addEffect .m) s

/-- ADD A, 0x87 (R95). -/
def execAddA (s : State) : Result := perform .addA (regEffect addEffect .a) s

/-- ADC B, 0x88 (R96). -/
def execAdcB (s : State) : Result := perform .adcB (regEffect adcEffect .b) s

/-- ADC C, 0x89 (R96). -/
def execAdcC (s : State) : Result := perform .adcC (regEffect adcEffect .c) s

/-- ADC D, 0x8A (R96). -/
def execAdcD (s : State) : Result := perform .adcD (regEffect adcEffect .d) s

/-- ADC E, 0x8B (R96). -/
def execAdcE (s : State) : Result := perform .adcE (regEffect adcEffect .e) s

/-- ADC H, 0x8C (R96). -/
def execAdcH (s : State) : Result := perform .adcH (regEffect adcEffect .h) s

/-- ADC L, 0x8D (R96). -/
def execAdcL (s : State) : Result := perform .adcL (regEffect adcEffect .l) s

/-- ADC M, 0x8E (R96). -/
def execAdcM (s : State) : Result := perform .adcM (regEffect adcEffect .m) s

/-- ADC A, 0x8F (R96). -/
def execAdcA (s : State) : Result := perform .adcA (regEffect adcEffect .a) s

/-- SUB B, 0x90 (R97). -/
def execSubB (s : State) : Result := perform .subB (regEffect subEffect .b) s

/-- SUB C, 0x91 (R97). -/
def execSubC (s : State) : Result := perform .subC (regEffect subEffect .c) s

/-- SUB D, 0x92 (R97). -/
def execSubD (s : State) : Result := perform .subD (regEffect subEffect .d) s

/-- SUB E, 0x93 (R97). -/
def execSubE (s : State) : Result := perform .subE (regEffect subEffect .e) s

/-- SUB H, 0x94 (R97). -/
def execSubH (s : State) : Result := perform .subH (regEffect subEffect .h) s

/-- SUB L, 0x95 (R97). -/
def execSubL (s : State) : Result := perform .subL (regEffect subEffect .l) s

/-- SUB M, 0x96 (R97). -/
def execSubM (s : State) : Result := perform .subM (regEffect subEffect .m) s

/-- SUB A, 0x97 (R97). -/
def execSubA (s : State) : Result := perform .subA (regEffect subEffect .a) s

/-- SBB B, 0x98 (R98). -/
def execSbbB (s : State) : Result := perform .sbbB (regEffect sbbEffect .b) s

/-- SBB C, 0x99 (R98). -/
def execSbbC (s : State) : Result := perform .sbbC (regEffect sbbEffect .c) s

/-- SBB D, 0x9A (R98). -/
def execSbbD (s : State) : Result := perform .sbbD (regEffect sbbEffect .d) s

/-- SBB E, 0x9B (R98). -/
def execSbbE (s : State) : Result := perform .sbbE (regEffect sbbEffect .e) s

/-- SBB H, 0x9C (R98). -/
def execSbbH (s : State) : Result := perform .sbbH (regEffect sbbEffect .h) s

/-- SBB L, 0x9D (R98). -/
def execSbbL (s : State) : Result := perform .sbbL (regEffect sbbEffect .l) s

/-- SBB M, 0x9E (R98). -/
def execSbbM (s : State) : Result := perform .sbbM (regEffect sbbEffect .m) s

/-- SBB A, 0x9F (R98). -/
def execSbbA (s : State) : Result := perform .sbbA (regEffect sbbEffect .a) s

/-- ADI d8, 0xC6 (R99). -/
def execAdi (d8 : Byte) (s : State) : Result := perform (.adi d8) (addEffect d8) s

/-- ACI d8, 0xCE (R100). -/
def execAci (d8 : Byte) (s : State) : Result := perform (.aci d8) (adcEffect d8) s

/-- SUI d8, 0xD6 (R101). -/
def execSui (d8 : Byte) (s : State) : Result := perform (.sui d8) (subEffect d8) s

/-- SBI d8, 0xDE (R102). -/
def execSbi (d8 : Byte) (s : State) : Result := perform (.sbi d8) (sbbEffect d8) s

/-- INR B, 0x04 (R103). -/
def execInrB (s : State) : Result := perform .inrB (inrEffect .b) s

/-- INR C, 0x0C (R103). -/
def execInrC (s : State) : Result := perform .inrC (inrEffect .c) s

/-- INR D, 0x14 (R103). -/
def execInrD (s : State) : Result := perform .inrD (inrEffect .d) s

/-- INR E, 0x1C (R103). -/
def execInrE (s : State) : Result := perform .inrE (inrEffect .e) s

/-- INR H, 0x24 (R103). -/
def execInrH (s : State) : Result := perform .inrH (inrEffect .h) s

/-- INR L, 0x2C (R103). -/
def execInrL (s : State) : Result := perform .inrL (inrEffect .l) s

/-- INR M, 0x34 (R103). -/
def execInrM (s : State) : Result := perform .inrM (inrEffect .m) s

/-- INR A, 0x3C (R103). -/
def execInrA (s : State) : Result := perform .inrA (inrEffect .a) s

/-- DCR B, 0x05 (R104). -/
def execDcrB (s : State) : Result := perform .dcrB (dcrEffect .b) s

/-- DCR C, 0x0D (R104). -/
def execDcrC (s : State) : Result := perform .dcrC (dcrEffect .c) s

/-- DCR D, 0x15 (R104). -/
def execDcrD (s : State) : Result := perform .dcrD (dcrEffect .d) s

/-- DCR E, 0x1D (R104). -/
def execDcrE (s : State) : Result := perform .dcrE (dcrEffect .e) s

/-- DCR H, 0x25 (R104). -/
def execDcrH (s : State) : Result := perform .dcrH (dcrEffect .h) s

/-- DCR L, 0x2D (R104). -/
def execDcrL (s : State) : Result := perform .dcrL (dcrEffect .l) s

/-- DCR M, 0x35 (R104). -/
def execDcrM (s : State) : Result := perform .dcrM (dcrEffect .m) s

/-- DCR A, 0x3D (R104). -/
def execDcrA (s : State) : Result := perform .dcrA (dcrEffect .a) s

/-- INX B, 0x03 (R105). -/
def execInxB (s : State) : Result := perform .inxB (inxEffect .bc) s

/-- INX D, 0x13 (R105). -/
def execInxD (s : State) : Result := perform .inxD (inxEffect .de) s

/-- INX H, 0x23 (R105). -/
def execInxH (s : State) : Result := perform .inxH (inxEffect .hl) s

/-- INX SP, 0x33 (R105). -/
def execInxSP (s : State) : Result := perform .inxSP (inxEffect .sp) s

/-- DCX B, 0x0B (R106). -/
def execDcxB (s : State) : Result := perform .dcxB (dcxEffect .bc) s

/-- DCX D, 0x1B (R106). -/
def execDcxD (s : State) : Result := perform .dcxD (dcxEffect .de) s

/-- DCX H, 0x2B (R106). -/
def execDcxH (s : State) : Result := perform .dcxH (dcxEffect .hl) s

/-- DCX SP, 0x3B (R106). -/
def execDcxSP (s : State) : Result := perform .dcxSP (dcxEffect .sp) s

/-- DAD B, 0x09 (R107). -/
def execDadB (s : State) : Result := perform .dadB (dadEffect .bc) s

/-- DAD D, 0x19 (R107). -/
def execDadD (s : State) : Result := perform .dadD (dadEffect .de) s

/-- DAD H, 0x29 (R107). -/
def execDadH (s : State) : Result := perform .dadH (dadEffect .hl) s

/-- DAD SP, 0x39 (R107). -/
def execDadSP (s : State) : Result := perform .dadSP (dadEffect .sp) s

/-- DAA, 0x27 (R108). -/
def execDaa (s : State) : Result := perform .daa daaEffect s

end Sys2Proof.Machine
end

