-- ==== Sys2Proof/Machine/Branch.lean ====
section
/-! DEFINITION. Branch, call and return (44_branch R124 to R151). Each effect is the pseudocode of its rule, on the state
after the operand fetch, so PC there is the address of the next sequential instruction. No flag is written. -/

namespace Sys2Proof.Machine

/-- PC <- a16: R124. -/
def jmpEffect (a16 : Word) (s : State) : State := s.setPc a16

/-- if Cond(ccc): PC <- a16; R125 to R132. -/
def jccEffect (cond : Cond) (a16 : Word) (s : State) : State := if s.flags.holds cond then s.setPc a16 else s

/-- PC <- pair(HL): R133. -/
def pchlEffect (s : State) : State := s.setPc s.regs.hl

/-- Push16(PC); PC <- a16: R134. -/
def callEffect (a16 : Word) (s : State) : State := (s.push16 s.pc).setPc a16

/-- if Cond(ccc): Push16(PC); PC <- a16; R135 to R142. -/
def cccEffect (cond : Cond) (a16 : Word) (s : State) : State :=
  if s.flags.holds cond then (s.push16 s.pc).setPc a16 else s

/-- PC <- Pop16(): R143. SP ends 2 higher (90_conflicts C3). -/
def retEffect (s : State) : State := s.drop16.setPc s.top16

/-- if Cond(ccc): PC <- Pop16(); R144 to R151. -/
def rccEffect (cond : Cond) (s : State) : State := if s.flags.holds cond then s.drop16.setPc s.top16 else s


/-- JMP a16, 0xC3 (R124). -/
def execJmp (a16 : Word) (s : State) : Result := perform (.jmp a16) (jmpEffect a16) s

/-- JNZ a16, 0xC2 (R125). -/
def execJnz (a16 : Word) (s : State) : Result := perform (.jnz a16) (jccEffect .nz a16) s

/-- JZ a16, 0xCA (R126). -/
def execJz (a16 : Word) (s : State) : Result := perform (.jz a16) (jccEffect .z a16) s

/-- JNC a16, 0xD2 (R127). -/
def execJnc (a16 : Word) (s : State) : Result := perform (.jnc a16) (jccEffect .nc a16) s

/-- JC a16, 0xDA (R128). -/
def execJc (a16 : Word) (s : State) : Result := perform (.jc a16) (jccEffect .c a16) s

/-- JPO a16, 0xE2 (R129). -/
def execJpo (a16 : Word) (s : State) : Result := perform (.jpo a16) (jccEffect .po a16) s

/-- JPE a16, 0xEA (R130). -/
def execJpe (a16 : Word) (s : State) : Result := perform (.jpe a16) (jccEffect .pe a16) s

/-- JP a16, 0xF2 (R131). -/
def execJp (a16 : Word) (s : State) : Result := perform (.jp a16) (jccEffect .p a16) s

/-- JM a16, 0xFA (R132). -/
def execJm (a16 : Word) (s : State) : Result := perform (.jm a16) (jccEffect .m a16) s

/-- PCHL, 0xE9 (R133). -/
def execPchl (s : State) : Result := perform .pchl pchlEffect s

/-- CALL a16, 0xCD (R134). -/
def execCall (a16 : Word) (s : State) : Result := perform (.call a16) (callEffect a16) s

/-- CNZ a16, 0xC4 (R135). -/
def execCnz (a16 : Word) (s : State) : Result := perform (.cnz a16) (cccEffect .nz a16) s

/-- CZ a16, 0xCC (R136). -/
def execCz (a16 : Word) (s : State) : Result := perform (.cz a16) (cccEffect .z a16) s

/-- CNC a16, 0xD4 (R137). -/
def execCnc (a16 : Word) (s : State) : Result := perform (.cnc a16) (cccEffect .nc a16) s

/-- CC a16, 0xDC (R138). -/
def execCc (a16 : Word) (s : State) : Result := perform (.cc a16) (cccEffect .c a16) s

/-- CPO a16, 0xE4 (R139). -/
def execCpo (a16 : Word) (s : State) : Result := perform (.cpo a16) (cccEffect .po a16) s

/-- CPE a16, 0xEC (R140). -/
def execCpe (a16 : Word) (s : State) : Result := perform (.cpe a16) (cccEffect .pe a16) s

/-- CP a16, 0xF4 (R141). -/
def execCp (a16 : Word) (s : State) : Result := perform (.cp a16) (cccEffect .p a16) s

/-- CM a16, 0xFC (R142). -/
def execCm (a16 : Word) (s : State) : Result := perform (.cm a16) (cccEffect .m a16) s

/-- RET, 0xC9 (R143). -/
def execRet (s : State) : Result := perform .ret retEffect s

/-- RNZ, 0xC0 (R144). -/
def execRnz (s : State) : Result := perform .rnz (rccEffect .nz) s

/-- RZ, 0xC8 (R145). -/
def execRz (s : State) : Result := perform .rz (rccEffect .z) s

/-- RNC, 0xD0 (R146). -/
def execRnc (s : State) : Result := perform .rnc (rccEffect .nc) s

/-- RC, 0xD8 (R147). -/
def execRc (s : State) : Result := perform .rc (rccEffect .c) s

/-- RPO, 0xE0 (R148). -/
def execRpo (s : State) : Result := perform .rpo (rccEffect .po) s

/-- RPE, 0xE8 (R149). -/
def execRpe (s : State) : Result := perform .rpe (rccEffect .pe) s

/-- RP, 0xF0 (R150). -/
def execRp (s : State) : Result := perform .rp (rccEffect .p) s

/-- RM, 0xF8 (R151). -/
def execRm (s : State) : Result := perform .rm (rccEffect .m) s

end Sys2Proof.Machine
end

