-- ==== Sys2Proof/Machine/DataTransfer.lean ====
section
/-! DEFINITION. Data transfer (41_data_transfer R80 to R92). No instruction here writes a flag. Each effect is the
pseudocode of its rule, on the state after the operand fetch. -/

namespace Sys2Proof.Machine

/-- WriteR(DDD, ReadR(SSS)): R80, R81, R82. The source is read before the destination is written. -/
def movEffect (dst src : R8) (s : State) : State := s.writeR dst (s.readR src)

/-- WriteR(DDD, b2): R83; MemWrite(pair(HL), 1, b2) for M: R84. -/
def mviEffect (dst : R8) (d8 : Byte) (s : State) : State := s.writeR dst d8

/-- R85: byte 3 to the high register, byte 2 to the low one; the whole word to SP. -/
def lxiEffect (rp : RegPair) (d16 : Word) (s : State) : State := s.writePair rp d16

/-- A <- MemRead(a16, 1): R86. -/
def ldaEffect (a16 : Word) (s : State) : State := s.setA (s.readByte a16)

/-- MemWrite(a16, 1, A); emit PersistHint(a16): R87. -/
def staEffect (a16 : Word) (s : State) : State := (s.writeByte a16 s.regs.a).emit (.persistHint a16)

/-- A <- MemRead(pair(rp), 1): R88. -/
def ldaxEffect (rp : IndexPair) (s : State) : State := s.setA (s.readByte (s.readIndexPair rp))

/-- MemWrite(pair(rp), 1, A): R89; it emits no hint. -/
def staxEffect (rp : IndexPair) (s : State) : State := s.writeByte (s.readIndexPair rp) s.regs.a

/-- L <- MemRead(a16, 1); H <- MemRead(a16 + 1, 1): R90. -/
def lhldEffect (a16 : Word) (s : State) : State := s.writePair .hl (s.readWord a16)

/-- MemWrite(a16, 1, L); MemWrite(a16 + 1, 1, H): R91; it emits no hint. -/
def shldEffect (a16 : Word) (s : State) : State := s.writeWord a16 s.regs.hl

/-- H and D exchanged, L and E exchanged: R92. -/
def xchgEffect (s : State) : State :=
  { s with regs := { s.regs with h := s.regs.d, d := s.regs.h, l := s.regs.e, e := s.regs.l } }


/-- MOV B,B, 0x40 (R80). -/
def execMovBB (s : State) : Result := perform .movBB (movEffect .b .b) s

/-- MOV B,C, 0x41 (R80). -/
def execMovBC (s : State) : Result := perform .movBC (movEffect .b .c) s

/-- MOV B,D, 0x42 (R80). -/
def execMovBD (s : State) : Result := perform .movBD (movEffect .b .d) s

/-- MOV B,E, 0x43 (R80). -/
def execMovBE (s : State) : Result := perform .movBE (movEffect .b .e) s

/-- MOV B,H, 0x44 (R80). -/
def execMovBH (s : State) : Result := perform .movBH (movEffect .b .h) s

/-- MOV B,L, 0x45 (R80). -/
def execMovBL (s : State) : Result := perform .movBL (movEffect .b .l) s

/-- MOV B,A, 0x47 (R80). -/
def execMovBA (s : State) : Result := perform .movBA (movEffect .b .a) s

/-- MOV C,B, 0x48 (R80). -/
def execMovCB (s : State) : Result := perform .movCB (movEffect .c .b) s

/-- MOV C,C, 0x49 (R80). -/
def execMovCC (s : State) : Result := perform .movCC (movEffect .c .c) s

/-- MOV C,D, 0x4A (R80). -/
def execMovCD (s : State) : Result := perform .movCD (movEffect .c .d) s

/-- MOV C,E, 0x4B (R80). -/
def execMovCE (s : State) : Result := perform .movCE (movEffect .c .e) s

/-- MOV C,H, 0x4C (R80). -/
def execMovCH (s : State) : Result := perform .movCH (movEffect .c .h) s

/-- MOV C,L, 0x4D (R80). -/
def execMovCL (s : State) : Result := perform .movCL (movEffect .c .l) s

/-- MOV C,A, 0x4F (R80). -/
def execMovCA (s : State) : Result := perform .movCA (movEffect .c .a) s

/-- MOV D,B, 0x50 (R80). -/
def execMovDB (s : State) : Result := perform .movDB (movEffect .d .b) s

/-- MOV D,C, 0x51 (R80). -/
def execMovDC (s : State) : Result := perform .movDC (movEffect .d .c) s

/-- MOV D,D, 0x52 (R80). -/
def execMovDD (s : State) : Result := perform .movDD (movEffect .d .d) s

/-- MOV D,E, 0x53 (R80). -/
def execMovDE (s : State) : Result := perform .movDE (movEffect .d .e) s

/-- MOV D,H, 0x54 (R80). -/
def execMovDH (s : State) : Result := perform .movDH (movEffect .d .h) s

/-- MOV D,L, 0x55 (R80). -/
def execMovDL (s : State) : Result := perform .movDL (movEffect .d .l) s

/-- MOV D,A, 0x57 (R80). -/
def execMovDA (s : State) : Result := perform .movDA (movEffect .d .a) s

/-- MOV E,B, 0x58 (R80). -/
def execMovEB (s : State) : Result := perform .movEB (movEffect .e .b) s

/-- MOV E,C, 0x59 (R80). -/
def execMovEC (s : State) : Result := perform .movEC (movEffect .e .c) s

/-- MOV E,D, 0x5A (R80). -/
def execMovED (s : State) : Result := perform .movED (movEffect .e .d) s

/-- MOV E,E, 0x5B (R80). -/
def execMovEE (s : State) : Result := perform .movEE (movEffect .e .e) s

/-- MOV E,H, 0x5C (R80). -/
def execMovEH (s : State) : Result := perform .movEH (movEffect .e .h) s

/-- MOV E,L, 0x5D (R80). -/
def execMovEL (s : State) : Result := perform .movEL (movEffect .e .l) s

/-- MOV E,A, 0x5F (R80). -/
def execMovEA (s : State) : Result := perform .movEA (movEffect .e .a) s

/-- MOV H,B, 0x60 (R80). -/
def execMovHB (s : State) : Result := perform .movHB (movEffect .h .b) s

/-- MOV H,C, 0x61 (R80). -/
def execMovHC (s : State) : Result := perform .movHC (movEffect .h .c) s

/-- MOV H,D, 0x62 (R80). -/
def execMovHD (s : State) : Result := perform .movHD (movEffect .h .d) s

/-- MOV H,E, 0x63 (R80). -/
def execMovHE (s : State) : Result := perform .movHE (movEffect .h .e) s

/-- MOV H,H, 0x64 (R80). -/
def execMovHH (s : State) : Result := perform .movHH (movEffect .h .h) s

/-- MOV H,L, 0x65 (R80). -/
def execMovHL (s : State) : Result := perform .movHL (movEffect .h .l) s

/-- MOV H,A, 0x67 (R80). -/
def execMovHA (s : State) : Result := perform .movHA (movEffect .h .a) s

/-- MOV L,B, 0x68 (R80). -/
def execMovLB (s : State) : Result := perform .movLB (movEffect .l .b) s

/-- MOV L,C, 0x69 (R80). -/
def execMovLC (s : State) : Result := perform .movLC (movEffect .l .c) s

/-- MOV L,D, 0x6A (R80). -/
def execMovLD (s : State) : Result := perform .movLD (movEffect .l .d) s

/-- MOV L,E, 0x6B (R80). -/
def execMovLE (s : State) : Result := perform .movLE (movEffect .l .e) s

/-- MOV L,H, 0x6C (R80). -/
def execMovLH (s : State) : Result := perform .movLH (movEffect .l .h) s

/-- MOV L,L, 0x6D (R80). -/
def execMovLL (s : State) : Result := perform .movLL (movEffect .l .l) s

/-- MOV L,A, 0x6F (R80). -/
def execMovLA (s : State) : Result := perform .movLA (movEffect .l .a) s

/-- MOV A,B, 0x78 (R80). -/
def execMovAB (s : State) : Result := perform .movAB (movEffect .a .b) s

/-- MOV A,C, 0x79 (R80). -/
def execMovAC (s : State) : Result := perform .movAC (movEffect .a .c) s

/-- MOV A,D, 0x7A (R80). -/
def execMovAD (s : State) : Result := perform .movAD (movEffect .a .d) s

/-- MOV A,E, 0x7B (R80). -/
def execMovAE (s : State) : Result := perform .movAE (movEffect .a .e) s

/-- MOV A,H, 0x7C (R80). -/
def execMovAH (s : State) : Result := perform .movAH (movEffect .a .h) s

/-- MOV A,L, 0x7D (R80). -/
def execMovAL (s : State) : Result := perform .movAL (movEffect .a .l) s

/-- MOV A,A, 0x7F (R80). -/
def execMovAA (s : State) : Result := perform .movAA (movEffect .a .a) s

/-- MOV B,M, 0x46 (R81). -/
def execMovBM (s : State) : Result := perform .movBM (movEffect .b .m) s

/-- MOV C,M, 0x4E (R81). -/
def execMovCM (s : State) : Result := perform .movCM (movEffect .c .m) s

/-- MOV D,M, 0x56 (R81). -/
def execMovDM (s : State) : Result := perform .movDM (movEffect .d .m) s

/-- MOV E,M, 0x5E (R81). -/
def execMovEM (s : State) : Result := perform .movEM (movEffect .e .m) s

/-- MOV H,M, 0x66 (R81). -/
def execMovHM (s : State) : Result := perform .movHM (movEffect .h .m) s

/-- MOV L,M, 0x6E (R81). -/
def execMovLM (s : State) : Result := perform .movLM (movEffect .l .m) s

/-- MOV A,M, 0x7E (R81). -/
def execMovAM (s : State) : Result := perform .movAM (movEffect .a .m) s

/-- MOV M,B, 0x70 (R82). -/
def execMovMB (s : State) : Result := perform .movMB (movEffect .m .b) s

/-- MOV M,C, 0x71 (R82). -/
def execMovMC (s : State) : Result := perform .movMC (movEffect .m .c) s

/-- MOV M,D, 0x72 (R82). -/
def execMovMD (s : State) : Result := perform .movMD (movEffect .m .d) s

/-- MOV M,E, 0x73 (R82). -/
def execMovME (s : State) : Result := perform .movME (movEffect .m .e) s

/-- MOV M,H, 0x74 (R82). -/
def execMovMH (s : State) : Result := perform .movMH (movEffect .m .h) s

/-- MOV M,L, 0x75 (R82). -/
def execMovML (s : State) : Result := perform .movML (movEffect .m .l) s

/-- MOV M,A, 0x77 (R82). -/
def execMovMA (s : State) : Result := perform .movMA (movEffect .m .a) s

/-- MVI B,d8, 0x06 (R83). -/
def execMviB (d8 : Byte) (s : State) : Result := perform (.mviB d8) (mviEffect .b d8) s

/-- MVI C,d8, 0x0E (R83). -/
def execMviC (d8 : Byte) (s : State) : Result := perform (.mviC d8) (mviEffect .c d8) s

/-- MVI D,d8, 0x16 (R83). -/
def execMviD (d8 : Byte) (s : State) : Result := perform (.mviD d8) (mviEffect .d d8) s

/-- MVI E,d8, 0x1E (R83). -/
def execMviE (d8 : Byte) (s : State) : Result := perform (.mviE d8) (mviEffect .e d8) s

/-- MVI H,d8, 0x26 (R83). -/
def execMviH (d8 : Byte) (s : State) : Result := perform (.mviH d8) (mviEffect .h d8) s

/-- MVI L,d8, 0x2E (R83). -/
def execMviL (d8 : Byte) (s : State) : Result := perform (.mviL d8) (mviEffect .l d8) s

/-- MVI A,d8, 0x3E (R83). -/
def execMviA (d8 : Byte) (s : State) : Result := perform (.mviA d8) (mviEffect .a d8) s

/-- MVI M,d8, 0x36 (R84). -/
def execMviM (d8 : Byte) (s : State) : Result := perform (.mviM d8) (mviEffect .m d8) s

/-- LXI B,d16, 0x01 (R85). -/
def execLxiB (d16 : Word) (s : State) : Result := perform (.lxiB d16) (lxiEffect .bc d16) s

/-- LXI D,d16, 0x11 (R85). -/
def execLxiD (d16 : Word) (s : State) : Result := perform (.lxiD d16) (lxiEffect .de d16) s

/-- LXI H,d16, 0x21 (R85). -/
def execLxiH (d16 : Word) (s : State) : Result := perform (.lxiH d16) (lxiEffect .hl d16) s

/-- LXI SP,d16, 0x31 (R85). -/
def execLxiSP (d16 : Word) (s : State) : Result := perform (.lxiSP d16) (lxiEffect .sp d16) s

/-- LDA a16, 0x3A (R86). -/
def execLda (a16 : Word) (s : State) : Result := perform (.lda a16) (ldaEffect a16) s

/-- STA a16, 0x32 (R87). -/
def execSta (a16 : Word) (s : State) : Result := perform (.sta a16) (staEffect a16) s

/-- LDAX B, 0x0A (R88). -/
def execLdaxB (s : State) : Result := perform .ldaxB (ldaxEffect .bc) s

/-- LDAX D, 0x1A (R88). -/
def execLdaxD (s : State) : Result := perform .ldaxD (ldaxEffect .de) s

/-- STAX B, 0x02 (R89). -/
def execStaxB (s : State) : Result := perform .staxB (staxEffect .bc) s

/-- STAX D, 0x12 (R89). -/
def execStaxD (s : State) : Result := perform .staxD (staxEffect .de) s

/-- LHLD a16, 0x2A (R90). -/
def execLhld (a16 : Word) (s : State) : Result := perform (.lhld a16) (lhldEffect a16) s

/-- SHLD a16, 0x22 (R91). -/
def execShld (a16 : Word) (s : State) : Result := perform (.shld a16) (shldEffect a16) s

/-- XCHG, 0xEB (R92). -/
def execXchg (s : State) : Result := perform .xchg xchgEffect s

end Sys2Proof.Machine
end

