-- ==== Sys2Proof/Machine/Logical.lean ====
section
/-! DEFINITION. Logical, compare, rotate and carry (43_logical R109 to R123). Each effect is the pseudocode of its rule,
on the state after the operand fetch. -/

namespace Sys2Proof.Machine

/-- A <- r; setZSP(r); CY <- 0; AC <- ac. -/
def State.setLogic (s : State) (r : Byte) (ac : Bool) : State := (s.setA r).setFlags (logicFlags r ac)

/-- R109 (ANA), R110 (ANI): AC <- 1 (decision D4). -/
def anaEffect (v : Byte) (s : State) : State := s.setLogic (s.regs.a &&& v) true

/-- R111 (XRA), R112 (XRI): AC <- 0. -/
def xraEffect (v : Byte) (s : State) : State := s.setLogic (s.regs.a ^^^ v) false

/-- R113 (ORA), R114 (ORI): AC <- 0. -/
def oraEffect (v : Byte) (s : State) : State := s.setLogic (s.regs.a ||| v) false

/-- R115 (CMP), R116 (CPI): the flags of the subtraction; A and the operand are not written. -/
def cmpEffect (v : Byte) (s : State) : State := s.setFlags (subAlu s.cfg.subAuxCarry s.regs.a v false).flags

/-- A and CY after a rotate; no other flag. -/
def State.setRotated (s : State) (a : Byte) (c : Bool) : State := (s.setA a).setFlags { s.flags with cy := c }

/-- R117: bit 7 goes to bit 0 and to CY. -/
def rlcEffect (s : State) : State :=
  s.setRotated (shiftLeftIn s.regs.a (s.regs.a.getLsbD 7)) (s.regs.a.getLsbD 7)

/-- R118: bit 0 goes to bit 7 and to CY. -/
def rrcEffect (s : State) : State :=
  s.setRotated (shiftRightIn s.regs.a (s.regs.a.getLsbD 0)) (s.regs.a.getLsbD 0)

/-- R119: the previous CY goes to bit 0, bit 7 to CY. -/
def ralEffect (s : State) : State := s.setRotated (shiftLeftIn s.regs.a s.flags.cy) (s.regs.a.getLsbD 7)

/-- R120: the previous CY goes to bit 7, bit 0 to CY. -/
def rarEffect (s : State) : State := s.setRotated (shiftRightIn s.regs.a s.flags.cy) (s.regs.a.getLsbD 0)

/-- A <- 255 - A: R121; no flag. -/
def cmaEffect (s : State) : State := s.setA (BitVec.ofNat 8 (255 - s.regs.a.toNat))

/-- CY <- 1 - CY: R122. -/
def cmcEffect (s : State) : State := s.setFlags { s.flags with cy := !s.flags.cy }

/-- CY <- 1: R123. -/
def stcEffect (s : State) : State := s.setFlags { s.flags with cy := true }


/-- ANA B, 0xA0 (R109). -/
def execAnaB (s : State) : Result := perform .anaB (regEffect anaEffect .b) s

/-- ANA C, 0xA1 (R109). -/
def execAnaC (s : State) : Result := perform .anaC (regEffect anaEffect .c) s

/-- ANA D, 0xA2 (R109). -/
def execAnaD (s : State) : Result := perform .anaD (regEffect anaEffect .d) s

/-- ANA E, 0xA3 (R109). -/
def execAnaE (s : State) : Result := perform .anaE (regEffect anaEffect .e) s

/-- ANA H, 0xA4 (R109). -/
def execAnaH (s : State) : Result := perform .anaH (regEffect anaEffect .h) s

/-- ANA L, 0xA5 (R109). -/
def execAnaL (s : State) : Result := perform .anaL (regEffect anaEffect .l) s

/-- ANA M, 0xA6 (R109). -/
def execAnaM (s : State) : Result := perform .anaM (regEffect anaEffect .m) s

/-- ANA A, 0xA7 (R109). -/
def execAnaA (s : State) : Result := perform .anaA (regEffect anaEffect .a) s

/-- ANI d8, 0xE6 (R110). -/
def execAni (d8 : Byte) (s : State) : Result := perform (.ani d8) (anaEffect d8) s

/-- XRA B, 0xA8 (R111). -/
def execXraB (s : State) : Result := perform .xraB (regEffect xraEffect .b) s

/-- XRA C, 0xA9 (R111). -/
def execXraC (s : State) : Result := perform .xraC (regEffect xraEffect .c) s

/-- XRA D, 0xAA (R111). -/
def execXraD (s : State) : Result := perform .xraD (regEffect xraEffect .d) s

/-- XRA E, 0xAB (R111). -/
def execXraE (s : State) : Result := perform .xraE (regEffect xraEffect .e) s

/-- XRA H, 0xAC (R111). -/
def execXraH (s : State) : Result := perform .xraH (regEffect xraEffect .h) s

/-- XRA L, 0xAD (R111). -/
def execXraL (s : State) : Result := perform .xraL (regEffect xraEffect .l) s

/-- XRA M, 0xAE (R111). -/
def execXraM (s : State) : Result := perform .xraM (regEffect xraEffect .m) s

/-- XRA A, 0xAF (R111). -/
def execXraA (s : State) : Result := perform .xraA (regEffect xraEffect .a) s

/-- XRI d8, 0xEE (R112). -/
def execXri (d8 : Byte) (s : State) : Result := perform (.xri d8) (xraEffect d8) s

/-- ORA B, 0xB0 (R113). -/
def execOraB (s : State) : Result := perform .oraB (regEffect oraEffect .b) s

/-- ORA C, 0xB1 (R113). -/
def execOraC (s : State) : Result := perform .oraC (regEffect oraEffect .c) s

/-- ORA D, 0xB2 (R113). -/
def execOraD (s : State) : Result := perform .oraD (regEffect oraEffect .d) s

/-- ORA E, 0xB3 (R113). -/
def execOraE (s : State) : Result := perform .oraE (regEffect oraEffect .e) s

/-- ORA H, 0xB4 (R113). -/
def execOraH (s : State) : Result := perform .oraH (regEffect oraEffect .h) s

/-- ORA L, 0xB5 (R113). -/
def execOraL (s : State) : Result := perform .oraL (regEffect oraEffect .l) s

/-- ORA M, 0xB6 (R113). -/
def execOraM (s : State) : Result := perform .oraM (regEffect oraEffect .m) s

/-- ORA A, 0xB7 (R113). -/
def execOraA (s : State) : Result := perform .oraA (regEffect oraEffect .a) s

/-- ORI d8, 0xF6 (R114). -/
def execOri (d8 : Byte) (s : State) : Result := perform (.ori d8) (oraEffect d8) s

/-- CMP B, 0xB8 (R115). -/
def execCmpB (s : State) : Result := perform .cmpB (regEffect cmpEffect .b) s

/-- CMP C, 0xB9 (R115). -/
def execCmpC (s : State) : Result := perform .cmpC (regEffect cmpEffect .c) s

/-- CMP D, 0xBA (R115). -/
def execCmpD (s : State) : Result := perform .cmpD (regEffect cmpEffect .d) s

/-- CMP E, 0xBB (R115). -/
def execCmpE (s : State) : Result := perform .cmpE (regEffect cmpEffect .e) s

/-- CMP H, 0xBC (R115). -/
def execCmpH (s : State) : Result := perform .cmpH (regEffect cmpEffect .h) s

/-- CMP L, 0xBD (R115). -/
def execCmpL (s : State) : Result := perform .cmpL (regEffect cmpEffect .l) s

/-- CMP M, 0xBE (R115). -/
def execCmpM (s : State) : Result := perform .cmpM (regEffect cmpEffect .m) s

/-- CMP A, 0xBF (R115). -/
def execCmpA (s : State) : Result := perform .cmpA (regEffect cmpEffect .a) s

/-- CPI d8, 0xFE (R116). -/
def execCpi (d8 : Byte) (s : State) : Result := perform (.cpi d8) (cmpEffect d8) s

/-- RLC, 0x07 (R117). -/
def execRlc (s : State) : Result := perform .rlc rlcEffect s

/-- RRC, 0x0F (R118). -/
def execRrc (s : State) : Result := perform .rrc rrcEffect s

/-- RAL, 0x17 (R119). -/
def execRal (s : State) : Result := perform .ral ralEffect s

/-- RAR, 0x1F (R120). -/
def execRar (s : State) : Result := perform .rar rarEffect s

/-- CMA, 0x2F (R121). -/
def execCma (s : State) : Result := perform .cma cmaEffect s

/-- CMC, 0x3F (R122). -/
def execCmc (s : State) : Result := perform .cmc cmcEffect s

/-- STC, 0x37 (R123). -/
def execStc (s : State) : Result := perform .stc stcEffect s

end Sys2Proof.Machine
end

