-- ==== Sys2Proof/Machine/StackIoControl.lean ====
section
/-! DEFINITION. Stack, input and output, machine control (45_stack_io_control R153 to R162). Each effect is the pseudocode
of its rule, on the state after the operand fetch. -/

namespace Sys2Proof.Machine

/-- The word PUSH stores: a pair, or A and the flag byte (R153, R154; 10_state R14, R24). -/
def State.readStackPair (s : State) : StackPair → Word
  | .bc => s.regs.bc
  | .de => s.regs.de
  | .hl => s.regs.hl
  | .psw => ofBytes s.regs.a (flagByte s.cfg s.flags)

/-- What POP does with the popped word (R155, R156): for PSW its low byte is the flag byte and its high byte is A. -/
def State.writeStackPair (s : State) (rp : StackPair) (v : Word) : State :=
  match rp with
  | .bc => { s with regs := s.regs.setBc v }
  | .de => { s with regs := s.regs.setDe v }
  | .hl => { s with regs := s.regs.setHl v }
  | .psw => (s.setA (hiByte v)).setFlags (flagsOfByte (loByte v))

/-- Push16(pair(rp)): R153, R154. -/
def pushEffect (rp : StackPair) (s : State) : State := s.push16 (s.readStackPair rp)

/-- pair(rp) <- Pop16(): R155, R156. -/
def popEffect (rp : StackPair) (s : State) : State := s.drop16.writeStackPair rp s.top16

/-- HL exchanged with the word at SP; SP unchanged: R157. The word is read before HL is written over it. -/
def xthlEffect (s : State) : State := (s.writeWord s.sp s.regs.hl).writePair .hl (s.readWord s.sp)

/-- SP <- pair(HL): R158. -/
def sphlEffect (s : State) : State := s.setSp s.regs.hl

/-- A <- inPort[b2]: R159. -/
def inEffect (port : Byte) (s : State) : State := s.setA (s.readInPort port)

/-- outPort[b2] <- A: R160. -/
def outEffect (port : Byte) (s : State) : State := s.writeOutPort port s.regs.a

/-- halted <- 1: R161. The step returns HALTED, which the controller acts on (Machine/Controller.lean). -/
def hltEffect (s : State) : State := { s with halted := true }

/-- Nothing: R162. -/
def nopEffect (s : State) : State := s


/-- PUSH B, 0xC5 (R153). -/
def execPushB (s : State) : Result := perform .pushB (pushEffect .bc) s

/-- PUSH D, 0xD5 (R153). -/
def execPushD (s : State) : Result := perform .pushD (pushEffect .de) s

/-- PUSH H, 0xE5 (R153). -/
def execPushH (s : State) : Result := perform .pushH (pushEffect .hl) s

/-- PUSH PSW, 0xF5 (R154). -/
def execPushPSW (s : State) : Result := perform .pushPSW (pushEffect .psw) s

/-- POP B, 0xC1 (R155). -/
def execPopB (s : State) : Result := perform .popB (popEffect .bc) s

/-- POP D, 0xD1 (R155). -/
def execPopD (s : State) : Result := perform .popD (popEffect .de) s

/-- POP H, 0xE1 (R155). -/
def execPopH (s : State) : Result := perform .popH (popEffect .hl) s

/-- POP PSW, 0xF1 (R156). -/
def execPopPSW (s : State) : Result := perform .popPSW (popEffect .psw) s

/-- XTHL, 0xE3 (R157). -/
def execXthl (s : State) : Result := perform .xthl xthlEffect s

/-- SPHL, 0xF9 (R158). -/
def execSphl (s : State) : Result := perform .sphl sphlEffect s

/-- IN d8, 0xDB (R159). -/
def execInp (port : Byte) (s : State) : Result := perform (.inp port) (inEffect port) s

/-- OUT d8, 0xD3 (R160). -/
def execOutp (port : Byte) (s : State) : Result := perform (.outp port) (outEffect port) s

/-- HLT, 0x76 (R161). -/
def execHlt (s : State) : Result := perform .hlt hltEffect s

/-- NOP, 0x00 (R162). -/
def execNop (s : State) : Result := perform .nop nopEffect s

end Sys2Proof.Machine
end

