-- ==== Sys2Proof/Machine/Unsupported.lean ====
section
/-! DEFINITION. The 22 unsupported opcodes (45_stack_io_control R163; 30_encoding R66): one UnsupportedOpcode event and
PC + 1, nothing else. `perform` raises the event by the opcode's tier; the effect below is never reached. -/

namespace Sys2Proof.Machine

/-- An unsupported opcode has no defined instruction: no effect. -/
def unsupportedEffect (s : State) : State := s


/-- (unsupported: undocumented), 0x08 (R163). -/
def execUndoc08 (s : State) : Result := perform .undoc08 unsupportedEffect s

/-- (unsupported: undocumented), 0x10 (R163). -/
def execUndoc10 (s : State) : Result := perform .undoc10 unsupportedEffect s

/-- (unsupported: undocumented), 0x18 (R163). -/
def execUndoc18 (s : State) : Result := perform .undoc18 unsupportedEffect s

/-- (unsupported: RIM (interrupts out of scope)), 0x20 (R163). -/
def execRim (s : State) : Result := perform .rim unsupportedEffect s

/-- (unsupported: undocumented), 0x28 (R163). -/
def execUndoc28 (s : State) : Result := perform .undoc28 unsupportedEffect s

/-- (unsupported: SIM (interrupts out of scope)), 0x30 (R163). -/
def execSim (s : State) : Result := perform .sim unsupportedEffect s

/-- (unsupported: undocumented), 0x38 (R163). -/
def execUndoc38 (s : State) : Result := perform .undoc38 unsupportedEffect s

/-- (unsupported: RST 0 (interrupts out of scope)), 0xC7 (R163). -/
def execRst0 (s : State) : Result := perform .rst0 unsupportedEffect s

/-- (unsupported: undocumented), 0xCB (R163). -/
def execUndocCB (s : State) : Result := perform .undocCB unsupportedEffect s

/-- (unsupported: RST 1 (interrupts out of scope)), 0xCF (R163). -/
def execRst1 (s : State) : Result := perform .rst1 unsupportedEffect s

/-- (unsupported: RST 2 (interrupts out of scope)), 0xD7 (R163). -/
def execRst2 (s : State) : Result := perform .rst2 unsupportedEffect s

/-- (unsupported: undocumented), 0xD9 (R163). -/
def execUndocD9 (s : State) : Result := perform .undocD9 unsupportedEffect s

/-- (unsupported: undocumented), 0xDD (R163). -/
def execUndocDD (s : State) : Result := perform .undocDD unsupportedEffect s

/-- (unsupported: RST 3 (interrupts out of scope)), 0xDF (R163). -/
def execRst3 (s : State) : Result := perform .rst3 unsupportedEffect s

/-- (unsupported: RST 4 (interrupts out of scope)), 0xE7 (R163). -/
def execRst4 (s : State) : Result := perform .rst4 unsupportedEffect s

/-- (unsupported: undocumented), 0xED (R163). -/
def execUndocED (s : State) : Result := perform .undocED unsupportedEffect s

/-- (unsupported: RST 5 (interrupts out of scope)), 0xEF (R163). -/
def execRst5 (s : State) : Result := perform .rst5 unsupportedEffect s

/-- (unsupported: DI (interrupts out of scope)), 0xF3 (R163). -/
def execDi (s : State) : Result := perform .di unsupportedEffect s

/-- (unsupported: RST 6 (interrupts out of scope)), 0xF7 (R163). -/
def execRst6 (s : State) : Result := perform .rst6 unsupportedEffect s

/-- (unsupported: EI (interrupts out of scope)), 0xFB (R163). -/
def execEi (s : State) : Result := perform .ei unsupportedEffect s

/-- (unsupported: undocumented), 0xFD (R163). -/
def execUndocFD (s : State) : Result := perform .undocFD unsupportedEffect s

/-- (unsupported: RST 7 (interrupts out of scope)), 0xFF (R163). -/
def execRst7 (s : State) : Result := perform .rst7 unsupportedEffect s

end Sys2Proof.Machine
end

