-- ==== Sys2Proof/Machine/HostOps.lean ====
section
/-! DEFINITION. Reset and the host's operations (70_reset R188, R189; 20_memory R52, R53; 10_state R34; 60_exceptions
R173, R174, R176, R178 to R181). The requests that need the controller are in Machine/Controller.lean. -/

namespace Sys2Proof.Machine

/-! ## Memory images -/

/-- An image of the whole memory: exactly 65536 entries in [0,255] (20_memory R53). -/
def imageValid (image : List Nat) : Bool := image.length == 65536 && image.all (fun n => decide (n < 256))

/-- The cells of the bytes of an image that stand at `start` and above. -/
def cellsFrom : Nat → List Nat → Memory
  | _, [] => []
  | start, n :: rest =>
    let v := BitVec.ofNat 8 n
    if v = 0 then cellsFrom (start + 1) rest else (start, v) :: cellsFrom (start + 1) rest

/-- The memory after a restore: the image, or all zero where the image is malformed (20_memory R53). -/
def restoredMemory (image : List Nat) : Memory := if imageValid image then cellsFrom 0 image else []

/-! ## Reset -/

/-- Memory after reset: the persisted preload if there is one, else all zero (70_reset R189, decision D10). -/
def resetMemory (cfg : Config) : Memory :=
  match cfg.resetMemoryImage with
  | none => []
  | some image => restoredMemory image

/-- The machine right after its creation with these parameters (10_state R32, 70_reset R188, R189). -/
def State.resetWith (cfg : Config) : State := { State.reset with mem := resetMemory cfg, cfg := cfg }

/-- request_reset(): 70_reset R188, 60_exceptions R179. The events in flight and the host's moves to come are not the
core's to drop (log entry 5), and the parameters are fixed. -/
def State.requestReset (s : State) : State :=
  { State.resetWith s.cfg with events := s.events, hostMoves := s.hostMoves }

/-! ## What the controller is doing -/

/-- Not RUNNING: the state in which the host may edit and read (60_exceptions R180). -/
def State.notRunning (s : State) : Bool :=
  match s.ctrl with
  | .running _ => false
  | .ready => true
  | .halted => true
  | .paused => true

/-! ## The host's edits (20_memory R47, R52, R53; 60_exceptions R180) -/

/-- load(bytes, at_address): the addresses go up from `address`, modulo 65536 (R52, decision D15). -/
def State.loadBytes (s : State) (address : Nat) : List Byte → State
  | [] => s
  | v :: rest => (s.writeByte (BitVec.ofNat 16 address) v).loadBytes (address + 1) rest

/-- poke(address, byte) (R52). -/
def State.poke (s : State) (address : Nat) (value : Byte) : State := s.writeByte (BitVec.ofNat 16 address) value

/-- set_pc(address) (R180, decision D21). -/
def State.hostSetPc (s : State) (address : Nat) : State := s.setPc (BitVec.ofNat 16 address)

/-- set_input_port(n, byte) (R180, R181, decision D11). -/
def State.setInputPort (s : State) (port : Nat) (value : Byte) : State :=
  { s with inPort := s.inPort.write (port % 256) value }

/-- restore(): only memory changes (20_memory R53). -/
def State.restore (s : State) (image : List Nat) : State := { s with mem := restoredMemory image }

/-- An edit is a move the host has only while the controller is not RUNNING (R180, decision D19). -/
def hostEdit (move : HostMove) (edited : State) (s : State) : Result :=
  if s.notRunning then .next edited else .refused (.hostMoveNotAllowed move)

/-! ## The host's requests -/

/-- request_run(): in READY or PAUSED it starts run mode (60_exceptions R173); in HALTED it has no effect (R178); while
RUNNING the spec gives it no effect (log entry 6). -/
def State.requestRun (s : State) : State :=
  match s.ctrl with
  | .ready => { s with ctrl := .running .run }
  | .paused => { s with ctrl := .running .run }
  | .halted => s
  | .running _ => s

/-- request_step(): in READY or PAUSED it starts the one step of step mode (60_exceptions R174); elsewhere as
request_run(). -/
def State.requestStep (s : State) : State :=
  match s.ctrl with
  | .ready => { s with ctrl := .running .step }
  | .paused => { s with ctrl := .running .step }
  | .halted => s
  | .running _ => s

/-- request_break(): it sets the latch while RUNNING in RUN mode and has no effect elsewhere (60_exceptions R176). -/
def State.requestBreak (s : State) : State :=
  match s.ctrl with
  | .running .run => { s with breakPending := true }
  | .running .step => s
  | .ready => s
  | .halted => s
  | .paused => s

/-! ## What the host reads; none of these changes the state -/

/-- peek(address): only while not RUNNING (20_memory R52, 60_exceptions R180). -/
def State.peek (s : State) (address : Nat) : Option Byte :=
  if s.notRunning then some (s.readByte (BitVec.ofNat 16 address)) else none

/-- get_output_port(n): only while not RUNNING (60_exceptions R180, R181). -/
def State.getOutputPort (s : State) (port : Nat) : Option Byte :=
  if s.notRunning then some (s.readOutPort (BitVec.ofNat 8 port)) else none

/-- persist(): the full memory buffer, only while not RUNNING (20_memory R53, 60_exceptions R180). -/
def State.persist (s : State) : Option (List Nat) :=
  if s.notRunning then some ((List.range 65536).map (fun a => (s.mem.read a).toNat)) else none

/-- The snapshot of get_state (10_state R34). -/
structure Snapshot where
  regs : Regs
  sp : Word
  pc : Word
  flags : Flags
  halted : Bool
  deriving DecidableEq, Repr

/-- get_state(): between any two steps (10_state R34, 60_exceptions R180). -/
def State.getState (s : State) : Snapshot := ⟨s.regs, s.sp, s.pc, s.flags, s.halted⟩

end Sys2Proof.Machine
end

