-- ==== Sys2Proof/Machine/Controller.lean ====
section
/-! DEFINITION. The execution controller (60_exceptions R172 to R179, R182) and what one move of the host does. -/

namespace Sys2Proof.Machine

/-- What one call of execute_one returns (40_dispatch R70). -/
inductive ContinueSignal where
  | proceed
  | halted
  deriving DecidableEq, Repr

/-- HALTED only for the explicit halt opcode, CONTINUE for every other one (40_dispatch R72). -/
def continueSignal (i : Instr) : ContinueSignal := if i.opcode = 0x76 then .halted else .proceed

/-- The instruction raises UnsupportedOpcode under these parameters (40_dispatch R70, 60_exceptions R164). -/
def raisesUnsupported (cfg : Config) (i : Instr) : Bool :=
  decide (dispatchAction i.tier cfg.unnamedTierPolicy = .raise)

/-- The controller's state once `i` has completed in mode `m`: HALTED if it returned HALTED (60_exceptions R175); READY
after step mode's one step (R174); READY after an unsupported opcode in run mode (R177); otherwise still RUNNING. -/
def ctrlAfter (cfg : Config) (m : Mode) (i : Instr) : Ctrl :=
  match continueSignal i, m with
  | .halted, _ => .halted
  | .proceed, .step => .ready
  | .proceed, .run => if raisesUnsupported cfg i then .ready else .running .run

/-- One call of execute_one on the instruction at PC (R172), and the controller's move after it. -/
def executeOne (m : Mode) (s : State) : Result :=
  match exec s.fetchInstr s with
  | .next t => .next { t with ctrl := ctrlAfter t.cfg m s.fetchInstr }
  | .fault f => .fault f
  | .refused r => .refused r

/-- What the core does when the host lets it go on. RUN mode looks at `breakPending` before each instruction (R173,
R176); STEP mode executes one instruction (R174); outside RUNNING no step occurs and nothing changes (R178, R182; log
entry 4). -/
def controllerStep (s : State) : Result :=
  match s.ctrl with
  | .running .run =>
    if s.breakPending then .next { s with breakPending := false, ctrl := .paused } else executeOne .run s
  | .running .step => executeOne .step s
  | .ready => .next s
  | .halted => .next s
  | .paused => .next s

/-- One move of the host, taken between two steps (20_memory R46, R47; 60_exceptions R180). -/
def hostMove (move : HostMove) (s : State) : Result :=
  match move with
  | .proceed => controllerStep s
  | .load bytes address => hostEdit move (s.loadBytes address bytes) s
  | .poke address value => hostEdit move (s.poke address value) s
  | .setPc address => hostEdit move (s.hostSetPc address) s
  | .setInputPort port value => hostEdit move (s.setInputPort port value) s
  | .restore image => hostEdit move (s.restore image) s
  | .requestRun => .next s.requestRun
  | .requestStep => .next s.requestStep
  | .requestBreak => .next s.requestBreak
  | .requestReset => .next s.requestReset
  | .receiveEvents => .next { s with events := [] }

/-- One step of the whole machine: the host's next move, or, where it has none left, the core goes on. -/
def machineStep (s : State) : Result :=
  match s.hostMoves with
  | [] => controllerStep s
  | move :: rest => hostMove move { s with hostMoves := rest }

/-- RUNNING in run mode, unless the controller is RUNNING already. -/
def Ctrl.orRun : Ctrl → Ctrl
  | .running m => .running m
  | .ready => .running .run
  | .halted => .running .run
  | .paused => .running .run

/-- The state in which the core's next step is the execution of these bytes: they stand at PC, PC + 1, PC + 2, the
controller is RUNNING with no break pending, and the host has no move of its own (log entry 2). -/
def State.placed (s : State) (bytes : Byte × Byte × Byte) : State :=
  match bytes with
  | (b1, b2, b3) =>
    { ((s.writeByte s.pc b1).writeByte (s.pc + 1) b2).writeByte (s.pc + 2) b3 with
      ctrl := s.ctrl.orRun, breakPending := false, hostMoves := [] }

/-- How a program comes to run from reset (70_reset R190): the host loads it, sets PC, and requests a run; three steps
of the machine, and the fourth executes the program's first instruction (log entry 2). -/
def State.boot (program : List Byte) (address : Nat) : State :=
  { State.reset with hostMoves := [.load program address, .setPc address, .requestRun] }

end Sys2Proof.Machine
end

