-- ==== Sys2Proof/WellFormed.lean ====
section
/-! DEFINITION. Well-formedness. An operand's width is its type's (Byte, Word), and a register, pair, condition or ALU
code is part of the constructor, so every term of Instr stands for an instruction. What can be ill-formed is a list of
bytes: it must have the length its opcode byte fixes (30_encoding R55, R64). -/

namespace Sys2Proof

/-- A list of bytes is one instruction: it has an opcode byte, and as many bytes as that opcode takes (R55, R64). -/
def bytesWellFormed : List Byte → Bool
  | [] => false
  | op :: operands =>
    match opcodeLength op, operands with
    | 1, [] => true
    | 2, [_] => true
    | 3, [_, _] => true
    | _, _ => false

/-- An instruction is well-formed if its encoding is one instruction's bytes. -/
def Instr.wellFormed (i : Instr) : Bool := bytesWellFormed (encode i)

end Sys2Proof
end

