-- ==== Sys2Proof/Safety.lean ====
section
/-! DEFINITION. The terms the claims use: the invariant of the machine, and the results of the ALU written in natural
numbers as the rules of the spec word them, independently of the model's own bit-vector computations. -/

namespace Sys2Proof.Machine

/-! ## The invariant -/

/-- The states a run can reach satisfy this: memory and the port banks are in canonical form; `halted` is 1 exactly in
the controller's state HALTED (10_state R27, 60_exceptions R175, R187); `breakPending` is 1 only while RUNNING in RUN
mode (60_exceptions R176). -/
abbrev State.Inv (s : State) : Prop :=
  s.mem.wf ∧ s.inPort.portWf ∧ s.outPort.portWf ∧ (s.halted = true ↔ s.ctrl = .halted) ∧
  (s.breakPending = true → s.ctrl = .running .run)

/-! ## Flags and results in the spec's words -/

/-- The number of set bits of a byte, counted over its eight positions (10_state R22). -/
def bitsSet (r : Byte) : Nat := ((List.range 8).filter (fun k => r.toNat / 2 ^ k % 2 == 1)).length

/-- Z, S and P are those of a result byte (10_state R20, R21, R22). -/
def FlagsOfResult (f : Flags) (r : Byte) : Prop :=
  (f.z = true ↔ r.toNat = 0) ∧ (f.s = true ↔ 128 ≤ r.toNat) ∧ (f.p = true ↔ bitsSet r % 2 = 0)

/-- The adder of 42_arithmetic R93 gives this result byte and leaves these flags. -/
def AdderGives (a v : Byte) (cin : Bool) (r : Byte) (f : Flags) : Prop :=
  r.toNat = (a.toNat + v.toNat + cin.toNat) % 256 ∧ FlagsOfResult f r ∧
  (f.cy = true ↔ 256 ≤ a.toNat + v.toNat + cin.toNat) ∧
  (f.ac = true ↔ 16 ≤ a.toNat % 16 + v.toNat % 16 + cin.toNat)

/-- The subtracter of 42_arithmetic R94 gives this result byte and leaves these flags, for either value of
`subAuxCarry`. -/
def SubtracterGives (mode : SubAuxCarry) (a v : Byte) (bin : Bool) (r : Byte) (f : Flags) : Prop :=
  r.toNat = (a.toNat + 512 - v.toNat - bin.toNat) % 256 ∧ FlagsOfResult f r ∧
  (f.cy = true ↔ a.toNat < v.toNat + bin.toNat) ∧
  (mode = .borrow → (f.ac = true ↔ a.toNat % 16 < v.toNat % 16 + bin.toNat)) ∧
  (mode = .carry8080 → (f.ac = true ↔ ¬ a.toNat % 16 < v.toNat % 16 + bin.toNat))

/-- The flags a logic operation leaves (43_logical R109 to R114). -/
def LogicGives (ac : Bool) (r : Byte) (f : Flags) : Prop := FlagsOfResult f r ∧ f.cy = false ∧ f.ac = ac

/-! ## Frames and stores -/

/-- `t` differs from `s` at most in A, the flags, and PC, which is `len` higher. -/
def OnlyAccumulator (len : Word) (s t : State) : Prop :=
  t = { s with regs := { s.regs with a := t.regs.a }, flags := t.flags, pc := s.pc + len }

/-- In `t` the byte at `a` reads `v`, and every byte at another address reads as in `s` (20_memory R42). -/
def StoredByte (a : Word) (v : Byte) (s t : State) : Prop :=
  t.readByte a = v ∧ ∀ x, x ≠ a → t.readByte x = s.readByte x

/-- In `t` the byte at `a` reads the low byte of `v`, the one at `a + 1` modulo 65536 its high byte, and every byte at
another address reads as in `s` (20_memory R38, R39, R42). -/
def StoredWord (a v : Word) (s t : State) : Prop :=
  (t.readByte a).toNat = v.toNat % 256 ∧ (t.readByte (a + 1)).toNat = v.toNat / 256 ∧
  ∀ x, x ≠ a → x ≠ a + 1 → t.readByte x = s.readByte x

/-- The word at `a` in `s`, in natural numbers: the low byte at `a`, the high byte at `a + 1` (20_memory R38). -/
def wordAt (s : State) (a : Word) : Nat := (s.readByte (a + 1)).toNat * 256 + (s.readByte a).toNat

/-- `t` is `s` with `v` in what the code `dst` names (40_dispatch R77), the flags of `t`, and PC `len` higher. For M that is
the byte at HL and no register changes; for a register no other register changes and no byte of memory does. -/
def OperandWritten (dst : R8) (v : Byte) (len : Word) (s t : State) : Prop :=
  if dst = .m then
    t = { s with mem := t.mem, flags := t.flags, pc := s.pc + len } ∧ StoredByte s.regs.hl v s t
  else
    t = { s with regs := t.regs, flags := t.flags, pc := s.pc + len } ∧
    t.readR dst = v ∧ ∀ r, r ≠ dst → r ≠ .m → t.readR r = s.readR r

/-- `t` is `s` with `v` in the pair `rp` (10_state R14) and PC `len` higher, where no other register changes. The flags are
those of `t`. -/
def PairWritten (rp : RegPair) (v : Nat) (len : Word) (s t : State) : Prop :=
  t = { s with regs := t.regs, sp := t.sp, flags := t.flags, pc := s.pc + len } ∧ (t.readPair rp).toNat = v ∧
  match rp with
  | .bc => t.regs = { s.regs with b := t.regs.b, c := t.regs.c } ∧ t.sp = s.sp
  | .de => t.regs = { s.regs with d := t.regs.d, e := t.regs.e } ∧ t.sp = s.sp
  | .hl => t.regs = { s.regs with h := t.regs.h, l := t.regs.l } ∧ t.sp = s.sp
  | .sp => t.regs = s.regs

/-- `t` is `s` after the call of `target` by a 3-byte instruction: the address of the next one is pushed (44_branch R134). -/
def CalledFrom (target : Word) (s t : State) : Prop :=
  t = { s with mem := t.mem, sp := s.sp - 2, pc := target } ∧ StoredWord (s.sp - 2) (s.pc + 3) s t

/-- `t` is `s` after a return to the word at SP (44_branch R143). -/
def ReturnedFrom (s t : State) : Prop :=
  t = { s with sp := s.sp + 2, pc := t.pc } ∧ t.pc.toNat = wordAt s s.sp

/-! ## Where a step has no meaning -/

/-- The five edits of the host: the writes that it has only while the controller is not RUNNING (60_exceptions R180). -/
def HostMove.isEdit : HostMove → Bool
  | .load _ _ => true
  | .poke _ _ => true
  | .setPc _ => true
  | .setInputPort _ _ => true
  | .restore _ => true
  | .proceed => false
  | .requestRun => false
  | .requestStep => false
  | .requestBreak => false
  | .requestReset => false
  | .receiveEvents => false

/-- The host's next move is this one, an edit, while the controller is RUNNING (60_exceptions R180, the last row of
93_implementation_defined section 1). -/
def State.EditWhileRunning (s : State) (move : HostMove) : Prop :=
  move.isEdit = true ∧ (∃ moves, s.hostMoves = move :: moves) ∧ ∃ m, s.ctrl = .running m

/-- The next step executes the instruction at PC: the controller is RUNNING, no break is taken, and the host makes no move
of its own (60_exceptions R173, R174, R176). -/
def State.ExecutesNext (s : State) : Prop :=
  (∃ m, s.ctrl = .running m ∧ (m = .run → s.breakPending = false)) ∧
  (s.hostMoves = [] ∨ ∃ moves, s.hostMoves = .proceed :: moves)

/-! ## Decimal digits (42_arithmetic R108) -/

/-- A byte both of whose nibbles are decimal digits. -/
def isDecimal (v : Byte) : Prop := v.toNat % 16 ≤ 9 ∧ v.toNat / 16 ≤ 9

/-- The number the two decimal digits of a byte write. -/
def decimalValue (v : Byte) : Nat := v.toNat / 16 * 10 + v.toNat % 16

/-! ## Groups of opcodes, as the rules of the spec list them -/

/-- The 22 unsupported opcodes (30_encoding R66, 45_stack_io_control R163). -/
def unsupportedOpcodes : List Byte :=
  [0x08, 0x10, 0x18, 0x20, 0x28, 0x30, 0x38, 0xC7, 0xCB, 0xCF, 0xD7, 0xD9, 0xDD, 0xDF, 0xE7, 0xED, 0xEF, 0xF3, 0xF7,
    0xFB, 0xFD, 0xFF]

/-- The opcodes of tier `unnamed` (30_encoding R65): LXI, DAA, Rcc, SPHL, JPO, JPE, XTHL, XCHG, Ccc, CALL. -/
def unnamedOpcodes : List Byte :=
  [0x01, 0x11, 0x21, 0x31, 0x27, 0xC0, 0xC8, 0xD0, 0xD8, 0xE0, 0xE8, 0xF0, 0xF8, 0xF9, 0xE2, 0xEA, 0xE3, 0xEB] ++
  [0xC4, 0xCC, 0xD4, 0xDC, 0xE4, 0xEC, 0xF4, 0xFC, 0xCD]

/-- The opcodes of 3 bytes (30_encoding R64): LXI, SHLD, LHLD, STA, LDA, JMP, Jcc, CALL, Ccc. -/
def threeByteOpcodes : List Byte :=
  [0x01, 0x11, 0x21, 0x31, 0x22, 0x2A, 0x32, 0x3A, 0xC3, 0xC2, 0xCA, 0xD2, 0xDA, 0xE2, 0xEA, 0xF2, 0xFA] ++
  [0xCD, 0xC4, 0xCC, 0xD4, 0xDC, 0xE4, 0xEC, 0xF4, 0xFC]

/-- The opcodes of 2 bytes (30_encoding R64): MVI, the immediate ALU forms, OUT, IN. -/
def twoByteOpcodes : List Byte :=
  [0x06, 0x0E, 0x16, 0x1E, 0x26, 0x2E, 0x36, 0x3E, 0xC6, 0xCE, 0xD6, 0xDE, 0xE6, 0xEE, 0xF6, 0xFE, 0xD3, 0xDB]

/-- The opcodes that write Z, S, P and AC (the table of 10_state section 3): the ALU operations on A with a register, M or an
immediate, INR, DCR, DAA, POP PSW. -/
def WritesResultFlags (op : Byte) : Prop :=
  (0x80 ≤ op.toNat ∧ op.toNat < 0xC0) ∨ (0xC0 ≤ op.toNat ∧ op.toNat % 8 = 6) ∨
  (op.toNat < 0x40 ∧ (op.toNat % 8 = 4 ∨ op.toNat % 8 = 5)) ∨ op = 0x27 ∨ op = 0xF1

/-- The opcodes that write CY (the same table): those above but INR and DCR, which write it only where the parameter
`incDecWritesCarry` says so, the rotates, DAD, STC and CMC. -/
def WritesCarry (incDecWritesCarry : Bool) (op : Byte) : Prop :=
  (WritesResultFlags op ∧ (op.toNat < 0x40 → op = 0x27 ∨ incDecWritesCarry = true)) ∨
  op ∈ [(0x07 : Byte), 0x0F, 0x17, 0x1F, 0x09, 0x19, 0x29, 0x39, 0x37, 0x3F]

/-- The opcodes that store to memory: STAX, SHLD, STA, INR M, DCR M, MVI M, MOV M,r; PUSH, CALL, Ccc, XTHL. -/
def storingOpcodes : List Byte :=
  [0x02, 0x12, 0x22, 0x32, 0x34, 0x35, 0x36, 0x70, 0x71, 0x72, 0x73, 0x74, 0x75, 0x77, 0xC5, 0xD5, 0xE5, 0xF5] ++
  [0xCD, 0xC4, 0xCC, 0xD4, 0xDC, 0xE4, 0xEC, 0xF4, 0xFC, 0xE3]

/-- The opcodes that write SP (10_state R16): LXI SP, INX SP, DCX SP, SPHL; PUSH, POP; CALL, Ccc, RET, Rcc. -/
def spWritingOpcodes : List Byte :=
  [0x31, 0x33, 0x3B, 0xF9, 0xC5, 0xD5, 0xE5, 0xF5, 0xC1, 0xD1, 0xE1, 0xF1, 0xCD, 0xC9] ++
  [0xC4, 0xCC, 0xD4, 0xDC, 0xE4, 0xEC, 0xF4, 0xFC, 0xC0, 0xC8, 0xD0, 0xD8, 0xE0, 0xE8, 0xF0, 0xF8]

end Sys2Proof.Machine
end

