-- ==== Sys2Proof/Certificates/Slice0/Obligations.lean ====
section
/-! DEFINITION. The statements about the model, from the numbered rules of spec/. Each docstring names the rules; where a
statement rests on a choice that the spec marks as its own (a decision D<n>) or on a choice of this model, the docstring says
so and names the log entry. A statement about an instruction concludes that `exec` answers the next state it describes,
and says what that state keeps of the old one. The parameters of 00_scope R6 are part of the state (`cfg`), so a statement over
all states holds for every choice of them. -/

open Sys2Proof Sys2Proof.Machine

/-! ## Encoding -/

/-- 30_encoding R55, R56, R62 to R64, R68: every instruction is well-formed, and decoding its bytes, whatever follows them,
gives it back with every operand. The opcode map is decision D1 (log entry 9). -/
def Obligations.DecodeOfEncodeIsTheInstruction : Prop :=
  ∀ (i : Instr) (rest : List Byte), i.wellFormed = true ∧ decode (encode i ++ rest) = .ok (i, rest)

/-- 30_encoding R55, R56, R62: what the decoder reads, encoded again, is the bytes it read; no bit is dropped. The opcode map
is decision D1 (log entry 9). -/
def Obligations.EncodeOfDecodeIsTheBytes : Prop :=
  ∀ (bytes : List Byte) (i : Instr) (rest : List Byte), decode bytes = .ok (i, rest) → encode i ++ rest = bytes

/-- 30_encoding R68: whatever bytes follow it, an opcode value selects exactly one row; a list of bytes is rejected only
where it ends before the bytes that its opcode takes. -/
def Obligations.EveryOpcodeSelectsOneRow : Prop :=
  (∀ op b2 b3 : Byte, (decodeFields op b2 b3).opcode = op) ∧
  (∀ (op : Byte) (i : Instr), i.opcode = op → ∃ b2 b3, i = decodeFields op b2 b3) ∧
  (∀ (op : Byte) (rest : List Byte),
    (∃ r, decode (op :: rest) = .ok r) ↔ opcodeLength op ≤ rest.length + 1)

/-- 30_encoding R64: 3 bytes, 2 bytes or 1 byte, by the opcode lists of the rule. -/
def Obligations.LengthOfEveryInstruction : Prop :=
  ∀ i : Instr,
    (encode i).length = (if i.opcode ∈ threeByteOpcodes then 3 else if i.opcode ∈ twoByteOpcodes then 2 else 1) ∧
    i.length = (encode i).length ∧ (i.opcode ∈ unsupportedOpcodes → encode i = [i.opcode])

/-- 30_encoding R65, R66 (decisions D2, D3; log entries 10, 11): the tier of every instruction, by the spec's lists. -/
def Obligations.TierOfEveryInstruction : Prop :=
  ∀ i : Instr, i.tier =
    if i.opcode ∈ unsupportedOpcodes then .unsupported else if i.opcode ∈ unnamedOpcodes then .unnamed else .source

/-- Words written out from 30_encoding R58 to R63, one or two of each family, decode to the instruction they stand for. -/
def Obligations.SpecWordsDecode : Prop :=
  decode [0x3E, 0x05] = .ok (.mviA 0x05, []) ∧ decode [0x06, 0x03] = .ok (.mviB 0x03, []) ∧
  decode [0x80] = .ok (.addB, []) ∧ decode [0x90] = .ok (.subB, []) ∧ decode [0x76] = .ok (.hlt, []) ∧
  decode [0x66] = .ok (.movHM, []) ∧ decode [0x31, 0x50, 0x20] = .ok (.lxiSP 0x2050, []) ∧
  decode [0x32, 0x00, 0x30] = .ok (.sta 0x3000, []) ∧ decode [0x1A] = .ok (.ldaxD, []) ∧
  decode [0xDE, 0x01] = .ok (.sbi 0x01, []) ∧ decode [0x35] = .ok (.dcrM, []) ∧ decode [0x2B] = .ok (.dcxH, []) ∧
  decode [0x1F] = .ok (.rar, []) ∧ decode [0xBE] = .ok (.cmpM, []) ∧
  decode [0xEA, 0x34, 0x12] = .ok (.jpe 0x1234, []) ∧ decode [0xDC, 0x34, 0x12] = .ok (.cc 0x1234, []) ∧
  decode [0xF0] = .ok (.rp, []) ∧ decode [0xF5] = .ok (.pushPSW, []) ∧ decode [0xD1] = .ok (.popD, []) ∧
  decode [0xDB, 0x01] = .ok (.inp 0x01, []) ∧ decode [0xD3, 0x02] = .ok (.outp 0x02, []) ∧
  decode [0x20] = .ok (.rim, []) ∧ decode [0xFF] = .ok (.rst7, [])

/-! ## Registers, flags, memory -/

/-- 10_state R14: the pairs are views of the two registers; a write to a pair is seen in the registers and a write to a register
in the pair; the selector's last code is SP, and PSW for PUSH and POP. -/
def Obligations.RegisterPairsAreViews : Prop :=
  ∀ (s : State) (v : Word),
    (s.readPair .bc).toNat = s.regs.b.toNat * 256 + s.regs.c.toNat ∧
    (s.readPair .de).toNat = s.regs.d.toNat * 256 + s.regs.e.toNat ∧
    (s.readPair .hl).toNat = s.regs.h.toNat * 256 + s.regs.l.toNat ∧
    s.readPair .sp = s.sp ∧ s.writePair .sp v = { s with sp := v } ∧
    (∃ hi lo : Byte, hi.toNat = v.toNat / 256 ∧ lo.toNat = v.toNat % 256 ∧
      s.writePair .bc v = { s with regs := { s.regs with b := hi, c := lo } } ∧
      s.writePair .de v = { s with regs := { s.regs with d := hi, e := lo } } ∧
      s.writePair .hl v = { s with regs := { s.regs with h := hi, l := lo } }) ∧
    (s.readStackPair .psw).toNat = s.regs.a.toNat * 256 + (flagByte s.cfg s.flags).toNat ∧
    s.readStackPair .bc = s.readPair .bc ∧ s.readStackPair .de = s.readPair .de ∧
    s.readStackPair .hl = s.readPair .hl

/-- 10_state R24 (the layout is decision D7, log entry 15): the five flags and the three fill bits of the flag byte, and that
unpacking takes the five and drops the three. -/
def Obligations.FlagByteLayout : Prop :=
  ∀ (cfg : Config) (f : Flags) (b : Byte),
    (flagByte cfg f).getLsbD 7 = f.s ∧ (flagByte cfg f).getLsbD 6 = f.z ∧ (flagByte cfg f).getLsbD 5 = cfg.fill5 ∧
    (flagByte cfg f).getLsbD 4 = f.ac ∧ (flagByte cfg f).getLsbD 3 = cfg.fill3 ∧ (flagByte cfg f).getLsbD 2 = f.p ∧
    (flagByte cfg f).getLsbD 1 = cfg.fill1 ∧ (flagByte cfg f).getLsbD 0 = f.cy ∧
    flagsOfByte b =
      { s := b.getLsbD 7, z := b.getLsbD 6, ac := b.getLsbD 4, p := b.getLsbD 2, cy := b.getLsbD 0 } ∧
    flagsOfByte (flagByte cfg f) = f

/-- 20_memory R38 to R42: a byte written is read back and no other byte changes; a word is two bytes, the low one at the address
and the high one at the next address modulo 65536, at odd addresses and at 0xFFFF too. -/
def Obligations.MemoryBytesAndWords : Prop :=
  ∀ (s : State) (a v : Word) (b : Byte),
    StoredByte a b s (s.writeByte a b) ∧ StoredWord a v s (s.writeWord a v) ∧
    (s.readWord a).toNat = wordAt s a ∧ (s.writeWord a v).readWord a = v ∧
    (s.writeWord 0xFFFF v).readByte 0xFFFF = loByte v ∧ (s.writeWord 0xFFFF v).readByte 0x0000 = hiByte v

/-- The model's canonical form of memory (log entry 30) is canonical: two memories in that form with the same byte at each of the
65536 addresses are the same data. -/
def Obligations.CanonicalMemoryIsUnique : Prop :=
  ∀ m n : Memory, m.wf → n.wf → (∀ a : Word, m.read a.toNat = n.read a.toNat) → m = n

/-! ## Data transfer -/

/-- 41_data_transfer R80, R81, R82: MOV writes the source byte to the destination, whatever the two codes; MOV r,r with one
register is a one-byte no-op; the slot MOV M,M is HLT. -/
def Obligations.MovCopiesOneByte : Prop :=
  (∀ (dst src : R8) (s : State), ¬ (dst = .m ∧ src = .m) →
    encode (Instr.mov dst src) = [opcodeOfFields 1 dst.code src.code] ∧
    ∃ t, exec (Instr.mov dst src) s = .next t ∧ OperandWritten dst (s.readR src) 1 s t ∧ t.flags = s.flags) ∧
  (∀ (r : R8) (s : State), r ≠ .m → exec (Instr.mov r r) s = .next { s with pc := s.pc + 1 }) ∧
  Instr.mov .m .m = .hlt

/-- 41_data_transfer R83, R84 (the M form is decision D23, log entry 27): MVI writes byte 2 to the destination. -/
def Obligations.MviLoadsTheImmediate : Prop :=
  ∀ (dst : R8) (d8 : Byte) (s : State),
    encode (Instr.mvi d8 dst) = [opcodeOfFields 0 dst.code 6, d8] ∧
    ∃ t, exec (Instr.mvi d8 dst) s = .next t ∧ OperandWritten dst d8 2 s t ∧ t.flags = s.flags

/-- 41_data_transfer R85 (decision D2, log entry 10): LXI loads a pair or SP from bytes 2 (low) and 3 (high). -/
def Obligations.LxiLoadsThePair : Prop :=
  ∀ (rp : RegPair) (d16 : Word) (s : State), s.cfg.unnamedTierPolicy = .execute →
    encode (Instr.lxi d16 rp) = [opcodeOfFields 0 (2 * rp.code) 1, loByte d16, hiByte d16] ∧
    ∃ t, exec (Instr.lxi d16 rp) s = .next t ∧ PairWritten rp d16.toNat 3 s t ∧ t.flags = s.flags

/-- 41_data_transfer R86, R88: LDA and LDAX load A from memory, and change nothing else but PC. -/
def Obligations.AccumulatorLoads : Prop :=
  ∀ (a16 : Word) (s : State),
    encode (.lda a16) = [0x3A, loByte a16, hiByte a16] ∧ encode .ldaxB = [0x0A] ∧ encode .ldaxD = [0x1A] ∧
    exec (.lda a16) s = .next { s with regs := { s.regs with a := s.readByte a16 }, pc := s.pc + 3 } ∧
    exec .ldaxB s = .next { s with regs := { s.regs with a := s.readByte s.regs.bc }, pc := s.pc + 1 } ∧
    exec .ldaxD s = .next { s with regs := { s.regs with a := s.readByte s.regs.de }, pc := s.pc + 1 }

/-- 41_data_transfer R87, R89: STA and STAX store A; STA alone sends the persistence hint, with the address it wrote. -/
def Obligations.AccumulatorStores : Prop :=
  ∀ (a16 : Word) (s : State),
    encode (.sta a16) = [0x32, loByte a16, hiByte a16] ∧ encode .staxB = [0x02] ∧ encode .staxD = [0x12] ∧
    (∃ t, exec (.sta a16) s = .next t ∧ StoredByte a16 s.regs.a s t ∧
      t = { s with mem := t.mem, events := s.events ++ [.persistHint a16], pc := s.pc + 3 }) ∧
    (∃ t, exec .staxB s = .next t ∧ StoredByte s.regs.bc s.regs.a s t ∧
      t = { s with mem := t.mem, pc := s.pc + 1 }) ∧
    (∃ t, exec .staxD s = .next t ∧ StoredByte s.regs.de s.regs.a s t ∧
      t = { s with mem := t.mem, pc := s.pc + 1 })

/-- 41_data_transfer R90: LHLD loads L from the address and H from the next one modulo 65536. -/
def Obligations.LhldLoadsHL : Prop :=
  ∀ (a16 : Word) (s : State),
    encode (.lhld a16) = [0x2A, loByte a16, hiByte a16] ∧
    exec (.lhld a16) s =
      .next { s with regs := { s.regs with l := s.readByte a16, h := s.readByte (a16 + 1) }, pc := s.pc + 3 }

/-- 41_data_transfer R91 (no persistence hint: decision D16, log entry 24): SHLD stores L at the address and H at the next one
modulo 65536. -/
def Obligations.ShldStoresHL : Prop :=
  ∀ (a16 : Word) (s : State),
    encode (.shld a16) = [0x22, loByte a16, hiByte a16] ∧
    ∃ t, exec (.shld a16) s = .next t ∧ t = { s with mem := t.mem, pc := s.pc + 3 } ∧
      t.readByte a16 = s.regs.l ∧ t.readByte (a16 + 1) = s.regs.h ∧
      ∀ x, x ≠ a16 → x ≠ a16 + 1 → t.readByte x = s.readByte x

/-- 41_data_transfer R92 (decision D2, log entry 10): XCHG exchanges HL and DE; twice, it restores both. -/
def Obligations.XchgExchangesHLAndDE : Prop :=
  ∀ s : State, s.cfg.unnamedTierPolicy = .execute →
    encode .xchg = [0xEB] ∧
    exec .xchg s = .next { s with
      regs := { s.regs with h := s.regs.d, l := s.regs.e, d := s.regs.h, e := s.regs.l }, pc := s.pc + 1 } ∧
    ∀ t, exec .xchg s = .next t → ∃ u, exec .xchg t = .next u ∧ u.regs = s.regs

/-! ## Arithmetic -/

/-- 42_arithmetic R93, R95, R96: ADD and ADC with every register and M; the carry-in of ADC is CY before the instruction. -/
def Obligations.AddAndAdcRegister : Prop :=
  ∀ (src : R8) (s : State),
    encode (Instr.alu .add src) = [opcodeOfFields 2 0 src.code] ∧
    encode (Instr.alu .adc src) = [opcodeOfFields 2 1 src.code] ∧
    (∃ t, exec (Instr.alu .add src) s = .next t ∧ OnlyAccumulator 1 s t ∧
      AdderGives s.regs.a (s.readR src) false t.regs.a t.flags) ∧
    (∃ t, exec (Instr.alu .adc src) s = .next t ∧ OnlyAccumulator 1 s t ∧
      AdderGives s.regs.a (s.readR src) s.flags.cy t.regs.a t.flags)

/-- 42_arithmetic R94, R97, R98 (AC is decision D5, log entry 13, and is stated for both values of `subAuxCarry`): SUB and SBB
with every register and M; the borrow-in of SBB is CY before the instruction. -/
def Obligations.SubAndSbbRegister : Prop :=
  ∀ (src : R8) (s : State),
    encode (Instr.alu .sub src) = [opcodeOfFields 2 2 src.code] ∧
    encode (Instr.alu .sbb src) = [opcodeOfFields 2 3 src.code] ∧
    (∃ t, exec (Instr.alu .sub src) s = .next t ∧ OnlyAccumulator 1 s t ∧
      SubtracterGives s.cfg.subAuxCarry s.regs.a (s.readR src) false t.regs.a t.flags) ∧
    (∃ t, exec (Instr.alu .sbb src) s = .next t ∧ OnlyAccumulator 1 s t ∧
      SubtracterGives s.cfg.subAuxCarry s.regs.a (s.readR src) s.flags.cy t.regs.a t.flags)

/-- 42_arithmetic R99 to R102 (decisions D22 and, for AC, D5; log entries 27, 13): ADI, ACI, SUI, SBI. -/
def Obligations.ArithmeticImmediates : Prop :=
  ∀ (d8 : Byte) (s : State),
    encode (.adi d8) = [0xC6, d8] ∧ encode (.aci d8) = [0xCE, d8] ∧ encode (.sui d8) = [0xD6, d8] ∧
    encode (.sbi d8) = [0xDE, d8] ∧
    (∃ t, exec (.adi d8) s = .next t ∧ OnlyAccumulator 2 s t ∧ AdderGives s.regs.a d8 false t.regs.a t.flags) ∧
    (∃ t, exec (.aci d8) s = .next t ∧ OnlyAccumulator 2 s t ∧
      AdderGives s.regs.a d8 s.flags.cy t.regs.a t.flags) ∧
    (∃ t, exec (.sui d8) s = .next t ∧ OnlyAccumulator 2 s t ∧
      SubtracterGives s.cfg.subAuxCarry s.regs.a d8 false t.regs.a t.flags) ∧
    (∃ t, exec (.sbi d8) s = .next t ∧ OnlyAccumulator 2 s t ∧
      SubtracterGives s.cfg.subAuxCarry s.regs.a d8 s.flags.cy t.regs.a t.flags)

/-- 42_arithmetic R103 (CY is decision D6, log entry 14, and is stated for both values of `incDecWritesCarry`): INR of every
register and of M. -/
def Obligations.InrIncrementsTheOperand : Prop :=
  ∀ (dst : R8) (s : State),
    encode (Instr.inr dst) = [opcodeOfFields 0 dst.code 4] ∧
    ∃ (t : State) (r : Byte), exec (Instr.inr dst) s = .next t ∧ r.toNat = ((s.readR dst).toNat + 1) % 256 ∧
      OperandWritten dst r 1 s t ∧ FlagsOfResult t.flags r ∧
      (t.flags.ac = true ↔ (s.readR dst).toNat % 16 = 15) ∧
      (s.cfg.incDecWritesCarry = false → t.flags.cy = s.flags.cy) ∧
      (s.cfg.incDecWritesCarry = true → (t.flags.cy = true ↔ (s.readR dst).toNat = 255))

/-- 42_arithmetic R104 (AC is decision D5, CY decision D6; log entries 13, 14; stated for every value of the two parameters): DCR of
every register and of M. -/
def Obligations.DcrDecrementsTheOperand : Prop :=
  ∀ (dst : R8) (s : State),
    encode (Instr.dcr dst) = [opcodeOfFields 0 dst.code 5] ∧
    ∃ (t : State) (r : Byte), exec (Instr.dcr dst) s = .next t ∧ r.toNat = ((s.readR dst).toNat + 255) % 256 ∧
      OperandWritten dst r 1 s t ∧ FlagsOfResult t.flags r ∧
      (s.cfg.subAuxCarry = .borrow → (t.flags.ac = true ↔ (s.readR dst).toNat % 16 = 0)) ∧
      (s.cfg.subAuxCarry = .carry8080 → (t.flags.ac = true ↔ (s.readR dst).toNat % 16 ≠ 0)) ∧
      (s.cfg.incDecWritesCarry = false → t.flags.cy = s.flags.cy) ∧
      (s.cfg.incDecWritesCarry = true → (t.flags.cy = true ↔ (s.readR dst).toNat = 0))

/-- 42_arithmetic R105, R106: INX and DCX of the three pairs and SP, modulo 65536, with no flag written. -/
def Obligations.InxAndDcxCountThePair : Prop :=
  ∀ (rp : RegPair) (s : State),
    encode (Instr.inx rp) = [opcodeOfFields 0 (2 * rp.code) 3] ∧
    encode (Instr.dcx rp) = [opcodeOfFields 0 (2 * rp.code + 1) 3] ∧
    (∃ t, exec (Instr.inx rp) s = .next t ∧ PairWritten rp (((s.readPair rp).toNat + 1) % 65536) 1 s t ∧
      t.flags = s.flags) ∧
    (∃ t, exec (Instr.dcx rp) s = .next t ∧ PairWritten rp (((s.readPair rp).toNat + 65535) % 65536) 1 s t ∧
      t.flags = s.flags)

/-- 42_arithmetic R107: DAD adds a pair or SP to HL; CY is the carry of the 16-bit sum and no other flag is written. -/
def Obligations.DadAddsThePairToHL : Prop :=
  ∀ (rp : RegPair) (s : State),
    encode (Instr.dad rp) = [opcodeOfFields 0 (2 * rp.code + 1) 1] ∧
    ∃ t, exec (Instr.dad rp) s = .next t ∧
      PairWritten .hl (((s.readPair .hl).toNat + (s.readPair rp).toNat) % 65536) 1 s t ∧
      t.flags = { s.flags with cy := t.flags.cy } ∧
      (t.flags.cy = true ↔ 65535 < (s.readPair .hl).toNat + (s.readPair rp).toNat)

/-- 42_arithmetic R108 (decisions D2, D9; log entries 10, 17): DAA adds 0x06 for the low digit and 0x60 for the high one; it never
clears CY. -/
def Obligations.DaaAdjustsTheAccumulator : Prop :=
  ∀ s : State, s.cfg.unnamedTierPolicy = .execute →
    encode .daa = [0x27] ∧
    ∃ (t : State) (lowCorr highCorr : Nat), exec .daa s = .next t ∧ OnlyAccumulator 1 s t ∧
      lowCorr = (if s.regs.a.toNat % 16 > 9 ∨ s.flags.ac = true then 6 else 0) ∧
      highCorr = (if s.regs.a.toNat > 0x99 ∨ s.flags.cy = true then 0x60 else 0) ∧
      t.regs.a.toNat = (s.regs.a.toNat + lowCorr + highCorr) % 256 ∧ FlagsOfResult t.flags t.regs.a ∧
      (t.flags.cy = true ↔ s.regs.a.toNat > 0x99 ∨ s.flags.cy = true) ∧
      (t.flags.ac = true ↔ s.regs.a.toNat % 16 + lowCorr > 15)

/-- 42_arithmetic R95, R99, R108 (DAA is decisions D2 and D9, log entries 10 and 17; ADI is decision D22, log entry 27): on decimal
operands, ADD or ADI and then DAA leave in A the last two decimal digits of the sum, and in CY its hundreds digit. -/
def Obligations.DecimalAdditionAfterDaa : Prop :=
  ∀ (s : State) (src : R8) (d8 : Byte), s.cfg.unnamedTierPolicy = .execute → isDecimal s.regs.a →
    (isDecimal (s.readR src) → ∃ t u, exec (Instr.alu .add src) s = .next t ∧ exec .daa t = .next u ∧
      isDecimal u.regs.a ∧
      decimalValue s.regs.a + decimalValue (s.readR src) = 100 * u.flags.cy.toNat + decimalValue u.regs.a) ∧
    (isDecimal d8 → ∃ t u, exec (.adi d8) s = .next t ∧ exec .daa t = .next u ∧ isDecimal u.regs.a ∧
      decimalValue s.regs.a + decimalValue d8 = 100 * u.flags.cy.toNat + decimalValue u.regs.a)

/-- 42_arithmetic R95, R97 and the property L1-5 of 95_test_vectors, as 90_conflicts C11 corrects it: ADD then SUB of one register
other than A, or of M, gives A back, with or without overflow. -/
def Obligations.AddThenSubRestoresTheAccumulator : Prop :=
  ∀ (src : R8) (s : State), src ≠ .a →
    ∃ t u, exec (Instr.alu .add src) s = .next t ∧ exec (Instr.alu .sub src) t = .next u ∧ u.regs = s.regs

/-! ## Logic, compare, rotate -/

/-- 43_logical R109, R111 to R114 (AC is decision D4, the immediate forms decision D22; log entries 12, 27): ANA, XRA, ORA with every
register and M, and XRI, ORI. -/
def Obligations.LogicOperations : Prop :=
  ∀ (src : R8) (d8 : Byte) (s : State),
    encode (Instr.alu .ana src) = [opcodeOfFields 2 4 src.code] ∧
    encode (Instr.alu .xra src) = [opcodeOfFields 2 5 src.code] ∧
    encode (Instr.alu .ora src) = [opcodeOfFields 2 6 src.code] ∧
    encode (.xri d8) = [0xEE, d8] ∧ encode (.ori d8) = [0xF6, d8] ∧
    (∃ t, exec (Instr.alu .ana src) s = .next t ∧ OnlyAccumulator 1 s t ∧
      t.regs.a = s.regs.a &&& s.readR src ∧ LogicGives true t.regs.a t.flags) ∧
    (∃ t, exec (Instr.alu .xra src) s = .next t ∧ OnlyAccumulator 1 s t ∧
      t.regs.a = s.regs.a ^^^ s.readR src ∧ LogicGives false t.regs.a t.flags) ∧
    (∃ t, exec (Instr.alu .ora src) s = .next t ∧ OnlyAccumulator 1 s t ∧
      t.regs.a = s.regs.a ||| s.readR src ∧ LogicGives false t.regs.a t.flags) ∧
    (∃ t, exec (.xri d8) s = .next t ∧ OnlyAccumulator 2 s t ∧ t.regs.a = s.regs.a ^^^ d8 ∧
      LogicGives false t.regs.a t.flags) ∧
    (∃ t, exec (.ori d8) s = .next t ∧ OnlyAccumulator 2 s t ∧ t.regs.a = s.regs.a ||| d8 ∧
      LogicGives false t.regs.a t.flags)

/-- 43_logical R110: ANI clears CY and sets AC. That AC is 1 is decision D4 (log entry 12), by 90_conflicts C7. -/
def Obligations.AndImmediate : Prop :=
  ∀ (d8 : Byte) (s : State),
    encode (.ani d8) = [0xE6, d8] ∧
    ∃ t, exec (.ani d8) s = .next t ∧ OnlyAccumulator 2 s t ∧ t.regs.a = s.regs.a &&& d8 ∧
      LogicGives true t.regs.a t.flags

/-- 43_logical R115, R116 (AC is decision D5, the immediate form decision D22; log entries 13, 27): CMP and CPI leave the flags of the
subtraction, and write neither A nor the operand. -/
def Obligations.CompareWritesFlagsOnly : Prop :=
  ∀ (src : R8) (d8 : Byte) (s : State),
    encode (Instr.alu .cmp src) = [opcodeOfFields 2 7 src.code] ∧ encode (.cpi d8) = [0xFE, d8] ∧
    (∃ (t : State) (r : Byte), exec (Instr.alu .cmp src) s = .next t ∧
      t = { s with flags := t.flags, pc := s.pc + 1 } ∧
      SubtracterGives s.cfg.subAuxCarry s.regs.a (s.readR src) false r t.flags) ∧
    (∃ (t : State) (r : Byte), exec (.cpi d8) s = .next t ∧ t = { s with flags := t.flags, pc := s.pc + 2 } ∧
      SubtracterGives s.cfg.subAuxCarry s.regs.a d8 false r t.flags)

/-- 43_logical R117 to R120: the four rotates of A by one bit. The bit rotated out is the new CY; RAL and RAR rotate the previous CY
in; no other flag is written. -/
def Obligations.RotatesOfTheAccumulator : Prop :=
  ∀ s : State,
    encode .rlc = [0x07] ∧ encode .rrc = [0x0F] ∧ encode .ral = [0x17] ∧ encode .rar = [0x1F] ∧
    (∀ i ∈ [Instr.rlc, .rrc, .ral, .rar], ∃ t, exec i s = .next t ∧ OnlyAccumulator 1 s t ∧
      t.flags = { s.flags with cy := t.flags.cy } ∧
      (i = .rlc → t.regs.a.toNat = s.regs.a.toNat * 2 % 256 + s.regs.a.toNat / 128) ∧
      (i = .rrc → t.regs.a.toNat = s.regs.a.toNat / 2 + s.regs.a.toNat % 2 * 128) ∧
      (i = .ral → t.regs.a.toNat = s.regs.a.toNat * 2 % 256 + s.flags.cy.toNat) ∧
      (i = .rar → t.regs.a.toNat = s.regs.a.toNat / 2 + s.flags.cy.toNat * 128) ∧
      (i = .rlc ∨ i = .ral → (t.flags.cy = true ↔ 128 ≤ s.regs.a.toNat)) ∧
      (i = .rrc ∨ i = .rar → (t.flags.cy = true ↔ s.regs.a.toNat % 2 = 1)))

/-- 43_logical R121, R122, R123: CMA writes 255 - A and no flag; CMC and STC write CY alone. -/
def Obligations.ComplementAndCarry : Prop :=
  ∀ s : State,
    encode .cma = [0x2F] ∧ encode .cmc = [0x3F] ∧ encode .stc = [0x37] ∧
    (∃ t, exec .cma s = .next t ∧ OnlyAccumulator 1 s t ∧ t.flags = s.flags ∧
      t.regs.a.toNat = 255 - s.regs.a.toNat) ∧
    exec .cmc s = .next { s with flags := { s.flags with cy := !s.flags.cy }, pc := s.pc + 1 } ∧
    exec .stc s = .next { s with flags := { s.flags with cy := true }, pc := s.pc + 1 }

/-! ## Branch, call, return -/

/-- 44_branch R124, R133: JMP and PCHL replace PC and change nothing else. -/
def Obligations.UnconditionalJumps : Prop :=
  ∀ (a16 : Word) (s : State),
    encode (.jmp a16) = [0xC3, loByte a16, hiByte a16] ∧ encode .pchl = [0xE9] ∧
    exec (.jmp a16) s = .next { s with pc := a16 } ∧
    ∃ t, exec .pchl s = .next t ∧ t = { s with pc := t.pc } ∧ t.pc.toNat = s.regs.h.toNat * 256 + s.regs.l.toNat

/-- 44_branch R125 to R128, R131, R132: each jump tests its flag as it stands; taken, PC is the target; not taken, it is past the
three bytes. Nothing else changes. -/
def Obligations.ConditionalJumps : Prop :=
  ∀ (a16 : Word) (s : State),
    ∀ row ∈ [((0xC2 : Byte), Instr.jnz a16, !s.flags.z), (0xCA, .jz a16, s.flags.z), (0xD2, .jnc a16, !s.flags.cy),
        (0xDA, .jc a16, s.flags.cy), (0xF2, .jp a16, !s.flags.s), (0xFA, .jm a16, s.flags.s)],
      encode row.2.1 = [row.1, loByte a16, hiByte a16] ∧
      exec row.2.1 s = .next { s with pc := if row.2.2 then a16 else s.pc + 3 }

/-- 44_branch R129, R130 (decision D2, log entry 10): JPO and JPE test P. -/
def Obligations.ParityJumps : Prop :=
  ∀ (a16 : Word) (s : State), s.cfg.unnamedTierPolicy = .execute →
    ∀ row ∈ [((0xE2 : Byte), Instr.jpo a16, !s.flags.p), (0xEA, .jpe a16, s.flags.p)],
      encode row.2.1 = [row.1, loByte a16, hiByte a16] ∧
      exec row.2.1 s = .next { s with pc := if row.2.2 then a16 else s.pc + 3 }

/-- 44_branch R134 to R142 (decision D2, log entry 10): CALL and the eight conditional calls. A call pushes the address of the next
instruction; a call not taken pushes nothing and goes on. -/
def Obligations.CallsPushTheReturnAddress : Prop :=
  ∀ (a16 : Word) (s : State), s.cfg.unnamedTierPolicy = .execute →
    ∀ row ∈ [((0xCD : Byte), Instr.call a16, true), (0xC4, .cnz a16, !s.flags.z), (0xCC, .cz a16, s.flags.z),
        (0xD4, .cnc a16, !s.flags.cy), (0xDC, .cc a16, s.flags.cy), (0xE4, .cpo a16, !s.flags.p),
        (0xEC, .cpe a16, s.flags.p), (0xF4, .cp a16, !s.flags.s), (0xFC, .cm a16, s.flags.s)],
      encode row.2.1 = [row.1, loByte a16, hiByte a16] ∧
      ∃ t, exec row.2.1 s = .next t ∧
        (row.2.2 = true → CalledFrom a16 s t) ∧ (row.2.2 = false → t = { s with pc := s.pc + 3 })

/-- 44_branch R143 to R151 (SP + 2 is decision D8, the conditional returns decision D2; log entries 16, 10): RET returns under every
value of the parameters; a conditional return not taken pops nothing and goes on. -/
def Obligations.ReturnsPopThePc : Prop :=
  ∀ s : State,
    encode .ret = [0xC9] ∧ (∃ t, exec .ret s = .next t ∧ ReturnedFrom s t) ∧
    (s.cfg.unnamedTierPolicy = .execute →
      ∀ row ∈ [((0xC0 : Byte), Instr.rnz, !s.flags.z), (0xC8, .rz, s.flags.z), (0xD0, .rnc, !s.flags.cy),
          (0xD8, .rc, s.flags.cy), (0xE0, .rpo, !s.flags.p), (0xE8, .rpe, s.flags.p), (0xF0, .rp, !s.flags.s),
          (0xF8, .rm, s.flags.s)],
        encode row.2.1 = [row.1] ∧
        ∃ t, exec row.2.1 s = .next t ∧
          (row.2.2 = true → ReturnedFrom s t) ∧ (row.2.2 = false → t = { s with pc := s.pc + 1 }))

/-- 44_branch R134, R143 (decisions D2, D8; log entries 10, 16): a RET executed with the stack pointer and the memory that CALL left
goes to the instruction after the CALL and restores SP, wherever the stack is. -/
def Obligations.ReturnUndoesTheCall : Prop :=
  ∀ (a16 : Word) (s : State), s.cfg.unnamedTierPolicy = .execute →
    ∃ t, exec (.call a16) s = .next t ∧
      ∀ u : State, u.sp = t.sp → u.mem = t.mem → ∃ v, exec .ret u = .next v ∧ v.pc = s.pc + 3 ∧ v.sp = s.sp

/-! ## Stack, ports, machine control, unsupported opcodes -/

/-- 45_stack_io_control R153: PUSH of BC, DE, HL: the high register at SP - 1, the low one at SP - 2, SP 2 lower, modulo 65536. -/
def Obligations.PushStoresThePair : Prop :=
  ∀ s : State,
    ∀ row ∈ [((0xC5 : Byte), Instr.pushB, s.regs.b, s.regs.c), (0xD5, .pushD, s.regs.d, s.regs.e),
        (0xE5, .pushH, s.regs.h, s.regs.l)],
      encode row.2.1 = [row.1] ∧
      ∃ t, exec row.2.1 s = .next t ∧ t = { s with mem := t.mem, sp := s.sp - 2, pc := s.pc + 1 } ∧
        t.readByte (s.sp - 1) = row.2.2.1 ∧ t.readByte (s.sp - 2) = row.2.2.2 ∧
        ∀ x, x ≠ s.sp - 1 → x ≠ s.sp - 2 → t.readByte x = s.readByte x

/-- 45_stack_io_control R155: POP of BC, DE, HL: the low register from SP, the high one from SP + 1, SP 2 higher, modulo 65536; PUSH
then POP of one of these pairs restores the pair and SP. -/
def Obligations.PopLoadsThePair : Prop :=
  (∀ s : State,
    encode .popB = [0xC1] ∧ encode .popD = [0xD1] ∧ encode .popH = [0xE1] ∧
    exec .popB s = .next { s with
      regs := { s.regs with c := s.readByte s.sp, b := s.readByte (s.sp + 1) }, sp := s.sp + 2, pc := s.pc + 1 } ∧
    exec .popD s = .next { s with
      regs := { s.regs with e := s.readByte s.sp, d := s.readByte (s.sp + 1) }, sp := s.sp + 2, pc := s.pc + 1 } ∧
    exec .popH s = .next { s with
      regs := { s.regs with l := s.readByte s.sp, h := s.readByte (s.sp + 1) }, sp := s.sp + 2, pc := s.pc + 1 }) ∧
  (∀ (s : State) (rp : StackPair), rp ≠ .psw →
    ∃ t u, exec (Instr.push rp) s = .next t ∧ exec (Instr.pop rp) t = .next u ∧ u.regs = s.regs ∧ u.sp = s.sp)

/-- 45_stack_io_control R154, R156 (the layout of the flag byte is decision D7, log entry 15): PUSH PSW stores A at SP - 1 and the flag
byte at SP - 2; POP PSW loads the flags from SP, dropping bits 5, 3 and 1, and A from SP + 1. -/
def Obligations.PswMoves : Prop :=
  ∀ s : State,
    encode .pushPSW = [0xF5] ∧ encode .popPSW = [0xF1] ∧
    (∃ t, exec .pushPSW s = .next t ∧ t = { s with mem := t.mem, sp := s.sp - 2, pc := s.pc + 1 } ∧
      t.readByte (s.sp - 1) = s.regs.a ∧
      (t.readByte (s.sp - 2)).toNat = s.flags.s.toNat * 128 + s.flags.z.toNat * 64 + s.cfg.fill5.toNat * 32 +
        s.flags.ac.toNat * 16 + s.cfg.fill3.toNat * 8 + s.flags.p.toNat * 4 + s.cfg.fill1.toNat * 2 +
        s.flags.cy.toNat ∧
      ∀ x, x ≠ s.sp - 1 → x ≠ s.sp - 2 → t.readByte x = s.readByte x) ∧
    exec .popPSW s = .next { s with
      regs := { s.regs with a := s.readByte (s.sp + 1) }, sp := s.sp + 2, pc := s.pc + 1,
      flags := {
        s := (s.readByte s.sp).getLsbD 7, z := (s.readByte s.sp).getLsbD 6, ac := (s.readByte s.sp).getLsbD 4,
        p := (s.readByte s.sp).getLsbD 2, cy := (s.readByte s.sp).getLsbD 0 } }

/-- The property L1-3 of 95_test_vectors (45_stack_io_control R153 to R156): PUSH then POP of one pair, PSW included, restores every
register, every flag and SP, for every SP. -/
def Obligations.PopUndoesThePush : Prop :=
  ∀ (rp : StackPair) (s : State),
    ∃ t u, exec (Instr.push rp) s = .next t ∧ exec (Instr.pop rp) t = .next u ∧
      u = { s with mem := t.mem, pc := s.pc + 2 }

/-- 45_stack_io_control R157, R158 (decision D2, log entry 10): XTHL exchanges HL with the word at SP and keeps SP; SPHL loads SP. -/
def Obligations.XthlAndSphl : Prop :=
  ∀ s : State, s.cfg.unnamedTierPolicy = .execute →
    encode .xthl = [0xE3] ∧ encode .sphl = [0xF9] ∧
    (∃ t, exec .xthl s = .next t ∧
      t = { s with mem := t.mem, pc := s.pc + 1,
                   regs := { s.regs with l := s.readByte s.sp, h := s.readByte (s.sp + 1) } } ∧
      t.readByte s.sp = s.regs.l ∧ t.readByte (s.sp + 1) = s.regs.h ∧
      ∀ x, x ≠ s.sp → x ≠ s.sp + 1 → t.readByte x = s.readByte x) ∧
    (∃ t, exec .sphl s = .next t ∧ t = { s with sp := t.sp, pc := s.pc + 1 } ∧
      t.sp.toNat = s.regs.h.toNat * 256 + s.regs.l.toNat)

/-- 45_stack_io_control R159, R160: IN loads A from the input bank; OUT writes A to the output bank and to no other port of it; a port
number that no one has written reads 0x00, and OUT does not change what IN reads. -/
def Obligations.InAndOut : Prop :=
  (∀ (n : Byte) (s : State),
    encode (.inp n) = [0xDB, n] ∧ encode (.outp n) = [0xD3, n] ∧
    exec (.inp n) s = .next { s with regs := { s.regs with a := s.readInPort n }, pc := s.pc + 2 } ∧
    ∃ t, exec (.outp n) s = .next t ∧ t = { s with outPort := t.outPort, pc := s.pc + 2 } ∧
      t.readOutPort n = s.regs.a ∧ ∀ k, k ≠ n → t.readOutPort k = s.readOutPort k) ∧
  (∀ n : Byte, State.reset.readInPort n = 0)

/-- 45_stack_io_control R161, R162 (that nothing but a reset leaves HALTED is decision D18, log entry 25): HLT sets `halted`; NOP does
nothing; both leave PC one higher. -/
def Obligations.HltAndNop : Prop :=
  ∀ s : State,
    encode .hlt = [0x76] ∧ encode .nop = [0x00] ∧
    exec .hlt s = .next { s with halted := true, pc := s.pc + 1 } ∧ exec .nop s = .next { s with pc := s.pc + 1 }

/-- 45_stack_io_control R163, 40_dispatch R73, 60_exceptions R164 (decision D3, log entry 11): each of the 22 unsupported opcodes sends
one event with its opcode, advances PC by 1, and changes nothing else. -/
def Obligations.UnsupportedOpcodesOnlyReport : Prop :=
  ∀ (i : Instr) (s : State), i.opcode ∈ unsupportedOpcodes →
    exec i s = .next { s with pc := s.pc + 1, events := s.events ++ [.unsupportedOpcode i.opcode] }

/-- 40_dispatch R70, R75 (decision D2, log entry 10): under `unsupported` an opcode of tier `unnamed` does exactly what an unsupported
one does; under `refuse` the step has no meaning; and a refusal never comes from another opcode or policy. -/
def Obligations.UnnamedTierPolicies : Prop :=
  ∀ (i : Instr) (s : State),
    (i.opcode ∈ unnamedOpcodes → s.cfg.unnamedTierPolicy = .unsupported →
      exec i s = .next { s with pc := s.pc + 1, events := s.events ++ [.unsupportedOpcode i.opcode] }) ∧
    (i.opcode ∈ unnamedOpcodes → s.cfg.unnamedTierPolicy = .refuse →
      exec i s = .refused (.unnamedTier i.opcode s.pc)) ∧
    (i.opcode ∉ unnamedOpcodes ∨ s.cfg.unnamedTierPolicy ≠ .refuse → ∃ t, exec i s = .next t)

/-! ## The whole machine -/

/-- 10_state R19: a flag that an instruction's rule does not list keeps its value, over all instructions. The lists are the table of
10_state section 3. -/
def Obligations.UnlistedFlagsKeepTheirValue : Prop :=
  ∀ (i : Instr) (s t : State), exec i s = .next t →
    (¬ WritesResultFlags i.opcode →
      t.flags.z = s.flags.z ∧ t.flags.s = s.flags.s ∧ t.flags.p = s.flags.p ∧ t.flags.ac = s.flags.ac) ∧
    (¬ WritesCarry s.cfg.incDecWritesCarry i.opcode → t.flags.cy = s.flags.cy)

/-- 10_state R16, R25 to R29, 20_memory R35, R36: over all instructions, memory changes only in the storing ones, SP only in those of
R16, the output bank only in OUT, `halted` only in HLT; no instruction writes the input bank, the controller's state, the break
latch or the parameters. -/
def Obligations.OnlyListedInstructionsChangeState : Prop :=
  ∀ (i : Instr) (s t : State), exec i s = .next t →
    (i.opcode ∉ storingOpcodes → t.mem = s.mem) ∧ (i.opcode ∉ spWritingOpcodes → t.sp = s.sp) ∧
    (i.opcode ≠ 0xD3 → t.outPort = s.outPort) ∧ (i.opcode ≠ 0x76 → t.halted = s.halted) ∧
    t.inPort = s.inPort ∧ t.ctrl = s.ctrl ∧ t.breakPending = s.breakPending ∧ t.cfg = s.cfg ∧
    t.hostMoves = s.hostMoves

/-- 60_exceptions R164, R168, 20_memory R54 (that SHLD sends no hint is decision D16, log entry 24): an instruction sends at most one
event, after those in flight: an unsupported-opcode event with its own opcode, or, for STA alone, the hint. -/
def Obligations.AtMostOneEventPerInstruction : Prop :=
  ∀ (i : Instr) (s t : State), exec i s = .next t →
    ((∀ a16, i ≠ .sta a16) ∧
        (t.events = s.events ∨ t = { s with pc := s.pc + 1, events := s.events ++ [.unsupportedOpcode i.opcode] })) ∨
      (∃ a16, i = .sta a16 ∧ t.events = s.events ++ [.persistHint a16])

/-- 10_state R26, R31, 20_memory R36: what an instruction does depends on the input bank only in IN, and on the output bank, the
controller's state, the break latch, `halted` and the events in flight not at all. -/
def Obligations.PortsAndControllerAreNotRead : Prop :=
  ∀ (i : Instr) (s t : State), exec i s = .next t →
    (∀ bank : Memory, (∀ n, i ≠ .inp n) → exec i { s with inPort := bank } = .next { t with inPort := bank }) ∧
    (∀ (bank : Memory) (c : Ctrl) (brk hlt : Bool) (es : List Event), ∃ u,
      exec i { s with outPort := bank, ctrl := c, breakPending := brk, halted := hlt, events := es } = .next u ∧
      u.regs = t.regs ∧ u.sp = t.sp ∧ u.pc = t.pc ∧ u.flags = t.flags ∧ u.mem = t.mem ∧ u.inPort = t.inPort ∧
      u.cfg = t.cfg ∧ u.hostMoves = t.hostMoves)

/-- The machine's invariant holds at reset, and at machine creation with any parameters (10_state R32, 70_reset R188, R189). -/
def Obligations.InvariantAtReset : Prop :=
  State.reset.Inv ∧ ∀ cfg : Config, (State.resetWith cfg).Inv

/-- The invariant is kept by every step, whatever instruction runs and whatever the host does: memory and both banks keep their
canonical form (log entry 30, the model's choice), `halted` is 1 exactly in HALTED (10_state R27, 60_exceptions R175, R187; that only
a reset leaves HALTED is decision D18, log entry 25), and a break is pending only while RUNNING in run mode (60_exceptions R176 with
decision D12, log entry 20; that step mode sets no latch is deduced, log entry 7). -/
def Obligations.EveryStepKeepsTheInvariant : Prop :=
  ∀ s t : State, s.Inv → step s = .next t → t.Inv

/-- 40_dispatch R70 to R72, 60_exceptions R172 to R175, R177 (decision D12, log entry 20): where the controller is RUNNING, no break is
taken and the host makes no move, a step is `exec` of the instruction whose bytes stand at PC, PC + 1, PC + 2 modulo 65536; after it the
controller is HALTED if the opcode was 0x76, READY after the one step of step mode and after an unsupported opcode, and
RUNNING otherwise. That the operand bytes are read before the effect is decision D13 in R71 (log entry 21). A host that makes the move
`proceed` changes nothing of this: that move, and the list of the host's moves, are the model's choice (log entry 3). -/
def Obligations.StepRunsTheDecodedInstruction : Prop :=
  ∀ (s : State) (m : Mode) (i : Instr) (rest : List Byte),
    s.hostMoves = [] → s.ctrl = .running m → (m = .run → s.breakPending = false) →
    decode [s.readByte s.pc, s.readByte (s.pc + 1), s.readByte (s.pc + 2)] = .ok (i, rest) →
    (∀ t, exec i s = .next t →
      step s = .next { t with ctrl :=
        if i.opcode = 0x76 then .halted
        else if m = .step ∨ i.opcode ∈ unsupportedOpcodes ∨
            (i.opcode ∈ unnamedOpcodes ∧ s.cfg.unnamedTierPolicy = .unsupported) then .ready
        else (.running .run) }) ∧
    (∀ r, exec i s = .refused r → step s = .refused r) ∧
    (∀ moves t, step s = .next t →
      step { s with hostMoves := .proceed :: moves } = .next { t with hostMoves := moves })

/-- 60_exceptions R173, R174, R176, R178, R182 (decisions D12, D18; log entries 4, 20, 25): what a request does in each state of the
controller, that a pending break is taken before the next instruction of run mode, and that nothing happens outside RUNNING. The
effect of a run or step request while RUNNING is the model's choice (log entry 6), that of a break request in step mode is
deduced (log entry 7). R174 gives a step request and its instruction together; that the request is a step of its own, which only
makes the controller RUNNING in step mode, is the model's choice (log entry 35), as is the list of the host's moves (log entry 3). -/
def Obligations.ControllerTransitions : Prop :=
  ∀ (s : State) (moves : List HostMove),
    step { s with hostMoves := .requestRun :: moves } = .next { s with
      hostMoves := moves, ctrl := if s.ctrl = .ready ∨ s.ctrl = .paused then .running .run else s.ctrl } ∧
    step { s with hostMoves := .requestStep :: moves } = .next { s with
      hostMoves := moves, ctrl := if s.ctrl = .ready ∨ s.ctrl = .paused then .running .step else s.ctrl } ∧
    step { s with hostMoves := .requestBreak :: moves } = .next { s with
      hostMoves := moves, breakPending := if s.ctrl = .running .run then true else s.breakPending } ∧
    (s.ctrl = .running .run → s.breakPending = true →
      step { s with hostMoves := [] } = .next { s with hostMoves := [], breakPending := false, ctrl := .paused }) ∧
    (s.ctrl = .ready ∨ s.ctrl = .paused ∨ s.ctrl = .halted →
      step { s with hostMoves := [] } = .next { s with hostMoves := [] })

/-- 60_exceptions R178, R187, 10_state R27 (decision D18, log entry 25; the list of the host's moves is the model's form,
log entry 3): in HALTED, whatever the host does short of a reset, the controller
stays HALTED, `halted` keeps its value, and no register but PC, no flag and no output port changes. -/
def Obligations.HaltedUntilReset : Prop :=
  ∀ s t : State, s.ctrl = .halted → (∀ moves, s.hostMoves ≠ .requestReset :: moves) → step s = .next t →
    t.ctrl = .halted ∧ t.halted = s.halted ∧ t.regs = s.regs ∧ t.sp = s.sp ∧ t.flags = s.flags ∧
    t.outPort = s.outPort ∧ ((∀ a moves, s.hostMoves ≠ .setPc a :: moves) → t.pc = s.pc)

/-- 10_state R32, 70_reset R188, R189, 60_exceptions R179 (decisions D10, D12; log entries 3, 5, 18, 20, 34): what a reset leaves, in every state of the
controller. Memory is the preload if there is a well-formed one, else all zero. That the events in flight are kept is the model's
choice (log entry 5). -/
def Obligations.ResetResult : Prop :=
  ∀ (s : State) (moves : List HostMove),
    ∃ t, step { s with hostMoves := .requestReset :: moves } = .next t ∧
      t = { State.reset with mem := t.mem, cfg := s.cfg, events := s.events, hostMoves := moves } ∧
      (s.cfg.resetMemoryImage = none → t.mem = []) ∧
      (∀ image, s.cfg.resetMemoryImage = some image → image.length = 65536 → (∀ n ∈ image, n < 256) →
        ∀ a : Word, (t.readByte a).toNat = image.getD a.toNat 0) ∧
      (∀ image, s.cfg.resetMemoryImage = some image → ¬ (image.length = 65536 ∧ ∀ n ∈ image, n < 256) → t.mem = [])

/-- 20_memory R47, R52, R53, 60_exceptions R180, R181 (decisions D10, D11, D15, D19, D21; log entries 3, 18, 19, 23, 26): the host's edits while the
controller is not RUNNING. Of the bytes a load puts at one address the last one stays; a malformed image restores to zeros. -/
def Obligations.HostEditsWhileNotRunning : Prop :=
  ∀ (s : State) (moves : List HostMove) (address : Nat) (value : Byte) (bytes : List Byte) (image : List Nat),
    (∀ m, s.ctrl ≠ .running m) →
    (∃ t, step { s with hostMoves := .poke address value :: moves } = .next t ∧
      t = { s with mem := t.mem, hostMoves := moves } ∧ StoredByte (BitVec.ofNat 16 address) value s t) ∧
    (∃ t, step { s with hostMoves := .load bytes address :: moves } = .next t ∧
      t = { s with mem := t.mem, hostMoves := moves } ∧
      (∀ k (hk : k < bytes.length),
        (∀ j, k < j → j < bytes.length → BitVec.ofNat 16 (address + j) ≠ BitVec.ofNat 16 (address + k)) →
        t.readByte (BitVec.ofNat 16 (address + k)) = bytes[k]) ∧
      ∀ x, (∀ k, k < bytes.length → x ≠ BitVec.ofNat 16 (address + k)) → t.readByte x = s.readByte x) ∧
    step { s with hostMoves := .setPc address :: moves } =
      .next { s with pc := BitVec.ofNat 16 address, hostMoves := moves } ∧
    (∃ t, step { s with hostMoves := .setInputPort address value :: moves } = .next t ∧
      t = { s with inPort := t.inPort, hostMoves := moves } ∧ t.readInPort (BitVec.ofNat 8 address) = value ∧
      ∀ k, k ≠ BitVec.ofNat 8 address → t.readInPort k = s.readInPort k) ∧
    (∃ t, step { s with hostMoves := .restore image :: moves } = .next t ∧
      t = { s with mem := t.mem, hostMoves := moves } ∧
      (image.length = 65536 → (∀ n ∈ image, n < 256) → ∀ a : Word, (t.readByte a).toNat = image.getD a.toNat 0) ∧
      (¬ (image.length = 65536 ∧ ∀ n ∈ image, n < 256) → ∀ a : Word, t.readByte a = 0))

/-- 40_dispatch R70, R75, 60_exceptions R180 with the last row of 93_implementation_defined section 1 (decisions D2, D12, D19; log
entries 10, 20, 26; that a move which is not allowed is refused by name is log entry 8, and the form of the host's moves
log entry 3): a step is refused exactly where the host's next move is one of the five edits while the controller is RUNNING, and
then with that move, and where it would execute an opcode of tier `unnamed` under `refuse`, and then with that opcode, the byte
at PC, and its address. Every other step answers a next state. (No step faults, because Fault has no constructor:
log entry 31. That is the type's and not claimed here.) -/
def Obligations.StepIsRefusedExactlyWhere : Prop :=
  (∀ (s : State) (r : Refusal), step s = .refused r ↔
    (∃ move, s.EditWhileRunning move ∧ r = .hostMoveNotAllowed move) ∨
    (s.ExecutesNext ∧ s.readByte s.pc ∈ unnamedOpcodes ∧ s.cfg.unnamedTierPolicy = .refuse ∧
      r = .unnamedTier (s.readByte s.pc) s.pc)) ∧
  (∀ s : State, (∀ move, ¬ s.EditWhileRunning move) →
    ¬ (s.ExecutesNext ∧ s.readByte s.pc ∈ unnamedOpcodes ∧ s.cfg.unnamedTierPolicy = .refuse) →
    ∃ t, step s = .next t)
end

