-- ==== Sys2Proof/Laws/Bytes.lean ====
section
/-! SUPPORT. The two halves of a word and the word of two bytes undo each other (00_scope R7, 20_memory R38). -/

namespace Sys2Proof

theorem hiByte_toNat (w : Word) : (hiByte w).toNat = w.toNat / 256 := by
  have := w.isLt
  simp only [hiByte, BitVec.toNat_ofNat]
  omega

theorem loByte_toNat (w : Word) : (loByte w).toNat = w.toNat % 256 := by
  simp only [loByte, BitVec.toNat_ofNat]
  omega

theorem ofBytes_toNat (hi lo : Byte) : (ofBytes hi lo).toNat = hi.toNat * 256 + lo.toNat := by
  have := hi.isLt
  have := lo.isLt
  simp only [ofBytes, BitVec.toNat_ofNat]
  omega

@[simp] theorem hiByte_ofBytes (hi lo : Byte) : hiByte (ofBytes hi lo) = hi := by
  apply BitVec.eq_of_toNat_eq
  have := lo.isLt
  rw [hiByte_toNat, ofBytes_toNat]
  omega

@[simp] theorem loByte_ofBytes (hi lo : Byte) : loByte (ofBytes hi lo) = lo := by
  apply BitVec.eq_of_toNat_eq
  have := lo.isLt
  rw [loByte_toNat, ofBytes_toNat]
  omega

@[simp] theorem ofBytes_hiByte_loByte (w : Word) : ofBytes (hiByte w) (loByte w) = w := by
  apply BitVec.eq_of_toNat_eq
  rw [ofBytes_toNat, hiByte_toNat, loByte_toNat]
  omega

/-- A 16-bit address and the next one are different places. -/
@[simp] theorem word_add_one_ne (a : Word) : a + 1 ≠ a := by bv_omega

@[simp] theorem word_ne_add_one (a : Word) : a ≠ a + 1 := fun h => word_add_one_ne a h.symm

end Sys2Proof
end

