-- ==== Sys2Proof/Laws/State.lean ====
section
/-! SUPPORT. One lemma for each field of State under each named update, so that no later proof unfolds an update. -/

namespace Sys2Proof.Machine

variable (s : State)

/-! ### writeByte -/

@[simp] theorem State.writeByte_regs (a : Word) (v : Byte) : (s.writeByte a v).regs = s.regs := rfl
@[simp] theorem State.writeByte_sp (a : Word) (v : Byte) : (s.writeByte a v).sp = s.sp := rfl
@[simp] theorem State.writeByte_pc (a : Word) (v : Byte) : (s.writeByte a v).pc = s.pc := rfl
@[simp] theorem State.writeByte_flags (a : Word) (v : Byte) : (s.writeByte a v).flags = s.flags := rfl
@[simp] theorem State.writeByte_mem (a : Word) (v : Byte) : (s.writeByte a v).mem = s.mem.write a.toNat v := rfl
@[simp] theorem State.writeByte_inPort (a : Word) (v : Byte) : (s.writeByte a v).inPort = s.inPort := rfl
@[simp] theorem State.writeByte_outPort (a : Word) (v : Byte) : (s.writeByte a v).outPort = s.outPort := rfl
@[simp] theorem State.writeByte_halted (a : Word) (v : Byte) : (s.writeByte a v).halted = s.halted := rfl
@[simp] theorem State.writeByte_ctrl (a : Word) (v : Byte) : (s.writeByte a v).ctrl = s.ctrl := rfl
@[simp] theorem State.writeByte_breakPending (a : Word) (v : Byte) : (s.writeByte a v).breakPending = s.breakPending := rfl
@[simp] theorem State.writeByte_events (a : Word) (v : Byte) : (s.writeByte a v).events = s.events := rfl
@[simp] theorem State.writeByte_cfg (a : Word) (v : Byte) : (s.writeByte a v).cfg = s.cfg := rfl
@[simp] theorem State.writeByte_hostMoves (a : Word) (v : Byte) : (s.writeByte a v).hostMoves = s.hostMoves := rfl

/-! ### writeOutPort -/

@[simp] theorem State.writeOutPort_regs (n v : Byte) : (s.writeOutPort n v).regs = s.regs := rfl
@[simp] theorem State.writeOutPort_sp (n v : Byte) : (s.writeOutPort n v).sp = s.sp := rfl
@[simp] theorem State.writeOutPort_pc (n v : Byte) : (s.writeOutPort n v).pc = s.pc := rfl
@[simp] theorem State.writeOutPort_flags (n v : Byte) : (s.writeOutPort n v).flags = s.flags := rfl
@[simp] theorem State.writeOutPort_mem (n v : Byte) : (s.writeOutPort n v).mem = s.mem := rfl
@[simp] theorem State.writeOutPort_inPort (n v : Byte) : (s.writeOutPort n v).inPort = s.inPort := rfl
@[simp] theorem State.writeOutPort_outPort (n v : Byte) : (s.writeOutPort n v).outPort = s.outPort.write n.toNat v := rfl
@[simp] theorem State.writeOutPort_halted (n v : Byte) : (s.writeOutPort n v).halted = s.halted := rfl
@[simp] theorem State.writeOutPort_ctrl (n v : Byte) : (s.writeOutPort n v).ctrl = s.ctrl := rfl
@[simp] theorem State.writeOutPort_breakPending (n v : Byte) : (s.writeOutPort n v).breakPending = s.breakPending := rfl
@[simp] theorem State.writeOutPort_events (n v : Byte) : (s.writeOutPort n v).events = s.events := rfl
@[simp] theorem State.writeOutPort_cfg (n v : Byte) : (s.writeOutPort n v).cfg = s.cfg := rfl
@[simp] theorem State.writeOutPort_hostMoves (n v : Byte) : (s.writeOutPort n v).hostMoves = s.hostMoves := rfl

/-! ### advance -/

@[simp] theorem State.advance_regs (n : Nat) : (s.advance n).regs = s.regs := rfl
@[simp] theorem State.advance_sp (n : Nat) : (s.advance n).sp = s.sp := rfl
@[simp] theorem State.advance_pc (n : Nat) : (s.advance n).pc = s.pc + BitVec.ofNat 16 n := rfl
@[simp] theorem State.advance_flags (n : Nat) : (s.advance n).flags = s.flags := rfl
@[simp] theorem State.advance_mem (n : Nat) : (s.advance n).mem = s.mem := rfl
@[simp] theorem State.advance_inPort (n : Nat) : (s.advance n).inPort = s.inPort := rfl
@[simp] theorem State.advance_outPort (n : Nat) : (s.advance n).outPort = s.outPort := rfl
@[simp] theorem State.advance_halted (n : Nat) : (s.advance n).halted = s.halted := rfl
@[simp] theorem State.advance_ctrl (n : Nat) : (s.advance n).ctrl = s.ctrl := rfl
@[simp] theorem State.advance_breakPending (n : Nat) : (s.advance n).breakPending = s.breakPending := rfl
@[simp] theorem State.advance_events (n : Nat) : (s.advance n).events = s.events := rfl
@[simp] theorem State.advance_cfg (n : Nat) : (s.advance n).cfg = s.cfg := rfl
@[simp] theorem State.advance_hostMoves (n : Nat) : (s.advance n).hostMoves = s.hostMoves := rfl

/-! ### setPc -/

@[simp] theorem State.setPc_regs (v : Word) : (s.setPc v).regs = s.regs := rfl
@[simp] theorem State.setPc_sp (v : Word) : (s.setPc v).sp = s.sp := rfl
@[simp] theorem State.setPc_pc (v : Word) : (s.setPc v).pc = v := rfl
@[simp] theorem State.setPc_flags (v : Word) : (s.setPc v).flags = s.flags := rfl
@[simp] theorem State.setPc_mem (v : Word) : (s.setPc v).mem = s.mem := rfl
@[simp] theorem State.setPc_inPort (v : Word) : (s.setPc v).inPort = s.inPort := rfl
@[simp] theorem State.setPc_outPort (v : Word) : (s.setPc v).outPort = s.outPort := rfl
@[simp] theorem State.setPc_halted (v : Word) : (s.setPc v).halted = s.halted := rfl
@[simp] theorem State.setPc_ctrl (v : Word) : (s.setPc v).ctrl = s.ctrl := rfl
@[simp] theorem State.setPc_breakPending (v : Word) : (s.setPc v).breakPending = s.breakPending := rfl
@[simp] theorem State.setPc_events (v : Word) : (s.setPc v).events = s.events := rfl
@[simp] theorem State.setPc_cfg (v : Word) : (s.setPc v).cfg = s.cfg := rfl
@[simp] theorem State.setPc_hostMoves (v : Word) : (s.setPc v).hostMoves = s.hostMoves := rfl

/-! ### setSp -/

@[simp] theorem State.setSp_regs (v : Word) : (s.setSp v).regs = s.regs := rfl
@[simp] theorem State.setSp_sp (v : Word) : (s.setSp v).sp = v := rfl
@[simp] theorem State.setSp_pc (v : Word) : (s.setSp v).pc = s.pc := rfl
@[simp] theorem State.setSp_flags (v : Word) : (s.setSp v).flags = s.flags := rfl
@[simp] theorem State.setSp_mem (v : Word) : (s.setSp v).mem = s.mem := rfl
@[simp] theorem State.setSp_inPort (v : Word) : (s.setSp v).inPort = s.inPort := rfl
@[simp] theorem State.setSp_outPort (v : Word) : (s.setSp v).outPort = s.outPort := rfl
@[simp] theorem State.setSp_halted (v : Word) : (s.setSp v).halted = s.halted := rfl
@[simp] theorem State.setSp_ctrl (v : Word) : (s.setSp v).ctrl = s.ctrl := rfl
@[simp] theorem State.setSp_breakPending (v : Word) : (s.setSp v).breakPending = s.breakPending := rfl
@[simp] theorem State.setSp_events (v : Word) : (s.setSp v).events = s.events := rfl
@[simp] theorem State.setSp_cfg (v : Word) : (s.setSp v).cfg = s.cfg := rfl
@[simp] theorem State.setSp_hostMoves (v : Word) : (s.setSp v).hostMoves = s.hostMoves := rfl

/-! ### setA -/

@[simp] theorem State.setA_regs (v : Byte) : (s.setA v).regs = { s.regs with a := v } := rfl
@[simp] theorem State.setA_sp (v : Byte) : (s.setA v).sp = s.sp := rfl
@[simp] theorem State.setA_pc (v : Byte) : (s.setA v).pc = s.pc := rfl
@[simp] theorem State.setA_flags (v : Byte) : (s.setA v).flags = s.flags := rfl
@[simp] theorem State.setA_mem (v : Byte) : (s.setA v).mem = s.mem := rfl
@[simp] theorem State.setA_inPort (v : Byte) : (s.setA v).inPort = s.inPort := rfl
@[simp] theorem State.setA_outPort (v : Byte) : (s.setA v).outPort = s.outPort := rfl
@[simp] theorem State.setA_halted (v : Byte) : (s.setA v).halted = s.halted := rfl
@[simp] theorem State.setA_ctrl (v : Byte) : (s.setA v).ctrl = s.ctrl := rfl
@[simp] theorem State.setA_breakPending (v : Byte) : (s.setA v).breakPending = s.breakPending := rfl
@[simp] theorem State.setA_events (v : Byte) : (s.setA v).events = s.events := rfl
@[simp] theorem State.setA_cfg (v : Byte) : (s.setA v).cfg = s.cfg := rfl
@[simp] theorem State.setA_hostMoves (v : Byte) : (s.setA v).hostMoves = s.hostMoves := rfl

/-! ### setFlags -/

@[simp] theorem State.setFlags_regs (f : Flags) : (s.setFlags f).regs = s.regs := rfl
@[simp] theorem State.setFlags_sp (f : Flags) : (s.setFlags f).sp = s.sp := rfl
@[simp] theorem State.setFlags_pc (f : Flags) : (s.setFlags f).pc = s.pc := rfl
@[simp] theorem State.setFlags_flags (f : Flags) : (s.setFlags f).flags = f := rfl
@[simp] theorem State.setFlags_mem (f : Flags) : (s.setFlags f).mem = s.mem := rfl
@[simp] theorem State.setFlags_inPort (f : Flags) : (s.setFlags f).inPort = s.inPort := rfl
@[simp] theorem State.setFlags_outPort (f : Flags) : (s.setFlags f).outPort = s.outPort := rfl
@[simp] theorem State.setFlags_halted (f : Flags) : (s.setFlags f).halted = s.halted := rfl
@[simp] theorem State.setFlags_ctrl (f : Flags) : (s.setFlags f).ctrl = s.ctrl := rfl
@[simp] theorem State.setFlags_breakPending (f : Flags) : (s.setFlags f).breakPending = s.breakPending := rfl
@[simp] theorem State.setFlags_events (f : Flags) : (s.setFlags f).events = s.events := rfl
@[simp] theorem State.setFlags_cfg (f : Flags) : (s.setFlags f).cfg = s.cfg := rfl
@[simp] theorem State.setFlags_hostMoves (f : Flags) : (s.setFlags f).hostMoves = s.hostMoves := rfl

/-! ### emit -/

@[simp] theorem State.emit_regs (e : Event) : (s.emit e).regs = s.regs := rfl
@[simp] theorem State.emit_sp (e : Event) : (s.emit e).sp = s.sp := rfl
@[simp] theorem State.emit_pc (e : Event) : (s.emit e).pc = s.pc := rfl
@[simp] theorem State.emit_flags (e : Event) : (s.emit e).flags = s.flags := rfl
@[simp] theorem State.emit_mem (e : Event) : (s.emit e).mem = s.mem := rfl
@[simp] theorem State.emit_inPort (e : Event) : (s.emit e).inPort = s.inPort := rfl
@[simp] theorem State.emit_outPort (e : Event) : (s.emit e).outPort = s.outPort := rfl
@[simp] theorem State.emit_halted (e : Event) : (s.emit e).halted = s.halted := rfl
@[simp] theorem State.emit_ctrl (e : Event) : (s.emit e).ctrl = s.ctrl := rfl
@[simp] theorem State.emit_breakPending (e : Event) : (s.emit e).breakPending = s.breakPending := rfl
@[simp] theorem State.emit_events (e : Event) : (s.emit e).events = s.events ++ [e] := rfl
@[simp] theorem State.emit_cfg (e : Event) : (s.emit e).cfg = s.cfg := rfl
@[simp] theorem State.emit_hostMoves (e : Event) : (s.emit e).hostMoves = s.hostMoves := rfl

/-! ### drop16 -/

@[simp] theorem State.drop16_regs : s.drop16.regs = s.regs := rfl
@[simp] theorem State.drop16_sp : s.drop16.sp = s.sp + 1 + 1 := rfl
@[simp] theorem State.drop16_pc : s.drop16.pc = s.pc := rfl
@[simp] theorem State.drop16_flags : s.drop16.flags = s.flags := rfl
@[simp] theorem State.drop16_mem : s.drop16.mem = s.mem := rfl
@[simp] theorem State.drop16_inPort : s.drop16.inPort = s.inPort := rfl
@[simp] theorem State.drop16_outPort : s.drop16.outPort = s.outPort := rfl
@[simp] theorem State.drop16_halted : s.drop16.halted = s.halted := rfl
@[simp] theorem State.drop16_ctrl : s.drop16.ctrl = s.ctrl := rfl
@[simp] theorem State.drop16_breakPending : s.drop16.breakPending = s.breakPending := rfl
@[simp] theorem State.drop16_events : s.drop16.events = s.events := rfl
@[simp] theorem State.drop16_cfg : s.drop16.cfg = s.cfg := rfl
@[simp] theorem State.drop16_hostMoves : s.drop16.hostMoves = s.hostMoves := rfl

/-! ### writeWord -/

@[simp] theorem State.writeWord_regs (a v : Word) : (s.writeWord a v).regs = s.regs := rfl
@[simp] theorem State.writeWord_sp (a v : Word) : (s.writeWord a v).sp = s.sp := rfl
@[simp] theorem State.writeWord_pc (a v : Word) : (s.writeWord a v).pc = s.pc := rfl
@[simp] theorem State.writeWord_flags (a v : Word) : (s.writeWord a v).flags = s.flags := rfl
@[simp] theorem State.writeWord_mem (a v : Word) : (s.writeWord a v).mem = (s.mem.write a.toNat (loByte v)).write (a + 1).toNat (hiByte v) := rfl
@[simp] theorem State.writeWord_inPort (a v : Word) : (s.writeWord a v).inPort = s.inPort := rfl
@[simp] theorem State.writeWord_outPort (a v : Word) : (s.writeWord a v).outPort = s.outPort := rfl
@[simp] theorem State.writeWord_halted (a v : Word) : (s.writeWord a v).halted = s.halted := rfl
@[simp] theorem State.writeWord_ctrl (a v : Word) : (s.writeWord a v).ctrl = s.ctrl := rfl
@[simp] theorem State.writeWord_breakPending (a v : Word) : (s.writeWord a v).breakPending = s.breakPending := rfl
@[simp] theorem State.writeWord_events (a v : Word) : (s.writeWord a v).events = s.events := rfl
@[simp] theorem State.writeWord_cfg (a v : Word) : (s.writeWord a v).cfg = s.cfg := rfl
@[simp] theorem State.writeWord_hostMoves (a v : Word) : (s.writeWord a v).hostMoves = s.hostMoves := rfl

/-! ### push16 -/

@[simp] theorem State.push16_regs (v : Word) : (s.push16 v).regs = s.regs := rfl
@[simp] theorem State.push16_sp (v : Word) : (s.push16 v).sp = s.sp - 1 - 1 := rfl
@[simp] theorem State.push16_pc (v : Word) : (s.push16 v).pc = s.pc := rfl
@[simp] theorem State.push16_flags (v : Word) : (s.push16 v).flags = s.flags := rfl
@[simp] theorem State.push16_mem (v : Word) : (s.push16 v).mem = (s.mem.write (s.sp - 1).toNat (hiByte v)).write (s.sp - 1 - 1).toNat (loByte v) := rfl
@[simp] theorem State.push16_inPort (v : Word) : (s.push16 v).inPort = s.inPort := rfl
@[simp] theorem State.push16_outPort (v : Word) : (s.push16 v).outPort = s.outPort := rfl
@[simp] theorem State.push16_halted (v : Word) : (s.push16 v).halted = s.halted := rfl
@[simp] theorem State.push16_ctrl (v : Word) : (s.push16 v).ctrl = s.ctrl := rfl
@[simp] theorem State.push16_breakPending (v : Word) : (s.push16 v).breakPending = s.breakPending := rfl
@[simp] theorem State.push16_events (v : Word) : (s.push16 v).events = s.events := rfl
@[simp] theorem State.push16_cfg (v : Word) : (s.push16 v).cfg = s.cfg := rfl
@[simp] theorem State.push16_hostMoves (v : Word) : (s.push16 v).hostMoves = s.hostMoves := rfl

/-! ### writePair: the fields it never changes -/

@[simp] theorem State.writePair_pc (rp : RegPair) (v : Word) : (s.writePair rp v).pc = s.pc := by cases rp <;> rfl
@[simp] theorem State.writePair_flags (rp : RegPair) (v : Word) : (s.writePair rp v).flags = s.flags := by cases rp <;> rfl
@[simp] theorem State.writePair_mem (rp : RegPair) (v : Word) : (s.writePair rp v).mem = s.mem := by cases rp <;> rfl
@[simp] theorem State.writePair_inPort (rp : RegPair) (v : Word) : (s.writePair rp v).inPort = s.inPort := by cases rp <;> rfl
@[simp] theorem State.writePair_outPort (rp : RegPair) (v : Word) : (s.writePair rp v).outPort = s.outPort := by cases rp <;> rfl
@[simp] theorem State.writePair_halted (rp : RegPair) (v : Word) : (s.writePair rp v).halted = s.halted := by cases rp <;> rfl
@[simp] theorem State.writePair_ctrl (rp : RegPair) (v : Word) : (s.writePair rp v).ctrl = s.ctrl := by cases rp <;> rfl
@[simp] theorem State.writePair_breakPending (rp : RegPair) (v : Word) : (s.writePair rp v).breakPending = s.breakPending := by cases rp <;> rfl
@[simp] theorem State.writePair_events (rp : RegPair) (v : Word) : (s.writePair rp v).events = s.events := by cases rp <;> rfl
@[simp] theorem State.writePair_cfg (rp : RegPair) (v : Word) : (s.writePair rp v).cfg = s.cfg := by cases rp <;> rfl
@[simp] theorem State.writePair_hostMoves (rp : RegPair) (v : Word) : (s.writePair rp v).hostMoves = s.hostMoves := by cases rp <;> rfl

/-! ### writeR: the fields it never changes -/

@[simp] theorem State.writeR_sp (r : R8) (v : Byte) : (s.writeR r v).sp = s.sp := by cases r <;> rfl
@[simp] theorem State.writeR_pc (r : R8) (v : Byte) : (s.writeR r v).pc = s.pc := by cases r <;> rfl
@[simp] theorem State.writeR_flags (r : R8) (v : Byte) : (s.writeR r v).flags = s.flags := by cases r <;> rfl
@[simp] theorem State.writeR_inPort (r : R8) (v : Byte) : (s.writeR r v).inPort = s.inPort := by cases r <;> rfl
@[simp] theorem State.writeR_outPort (r : R8) (v : Byte) : (s.writeR r v).outPort = s.outPort := by cases r <;> rfl
@[simp] theorem State.writeR_halted (r : R8) (v : Byte) : (s.writeR r v).halted = s.halted := by cases r <;> rfl
@[simp] theorem State.writeR_ctrl (r : R8) (v : Byte) : (s.writeR r v).ctrl = s.ctrl := by cases r <;> rfl
@[simp] theorem State.writeR_breakPending (r : R8) (v : Byte) : (s.writeR r v).breakPending = s.breakPending := by cases r <;> rfl
@[simp] theorem State.writeR_events (r : R8) (v : Byte) : (s.writeR r v).events = s.events := by cases r <;> rfl
@[simp] theorem State.writeR_cfg (r : R8) (v : Byte) : (s.writeR r v).cfg = s.cfg := by cases r <;> rfl
@[simp] theorem State.writeR_hostMoves (r : R8) (v : Byte) : (s.writeR r v).hostMoves = s.hostMoves := by cases r <;> rfl

end Sys2Proof.Machine
end

