-- ==== Sys2Proof/Laws/Memory.lean ====
section
/-! SUPPORT. The laws of cell lists: a read after a write, and that every operation keeps the canonical form. -/

namespace Sys2Proof.Machine

/-! ## Read after write -/

theorem Memory.read_cons (k : Nat) (v : Byte) (m : Memory) (x : Nat) :
    Memory.read ((k, v) :: m) x = if k = x then v else m.read x := rfl

theorem Memory.erase_cons (k : Nat) (v : Byte) (m : Memory) (a : Nat) :
    Memory.erase ((k, v) :: m) a = if k = a then m.erase a else (k, v) :: m.erase a := rfl

theorem Memory.insert_cons (k : Nat) (w : Byte) (m : Memory) (a : Nat) (v : Byte) :
    Memory.insert ((k, w) :: m) a v = if k < a then (k, w) :: m.insert a v else (a, v) :: (k, w) :: m := rfl

theorem Memory.read_erase (m : Memory) (a x : Nat) :
    (m.erase a).read x = if x = a then 0 else m.read x := by
  induction m with
  | nil => simp [Memory.erase, Memory.read]
  | cons c rest ih =>
    obtain ⟨k, v⟩ := c
    rw [Memory.erase_cons, Memory.read_cons]
    by_cases hk : k = a
    · rw [if_pos hk, ih]
      split
      · rfl
      · next hx => rw [if_neg (fun h : k = x => hx (h.symm.trans hk))]
    · rw [if_neg hk, Memory.read_cons, ih]
      by_cases hx : k = x
      · rw [if_pos hx, if_pos hx, if_neg (hx ▸ hk)]
      · rw [if_neg hx, if_neg hx]

theorem Memory.read_insert (m : Memory) (a x : Nat) (v : Byte) (hm : ∀ c ∈ m, c.1 ≠ a) :
    (m.insert a v).read x = if x = a then v else m.read x := by
  induction m with
  | nil =>
    rw [Memory.insert, Memory.read_cons]
    by_cases hx : x = a
    · rw [if_pos hx, if_pos hx.symm]
    · rw [if_neg hx, if_neg (Ne.symm hx)]
  | cons c rest ih =>
    obtain ⟨k, w⟩ := c
    have hk : k ≠ a := hm (k, w) (by simp)
    have ih := ih (fun c hc => hm c (by simp [hc]))
    rw [Memory.insert_cons]
    split
    · rw [Memory.read_cons, Memory.read_cons, ih]
      by_cases hx : k = x
      · rw [if_pos hx, if_pos hx, if_neg (hx ▸ hk)]
      · rw [if_neg hx, if_neg hx]
    · rw [Memory.read_cons]
      by_cases hx : x = a
      · rw [if_pos hx, if_pos hx.symm]
      · rw [if_neg hx, if_neg (Ne.symm hx)]

theorem Memory.mem_erase (m : Memory) (a : Nat) (c : Host.Cell) : c ∈ m.erase a ↔ c ∈ m ∧ c.1 ≠ a := by
  induction m with
  | nil => simp [Memory.erase]
  | cons d rest ih =>
    obtain ⟨k, v⟩ := d
    by_cases hk : k = a
    · simp only [Memory.erase, hk, if_true, ih, List.mem_cons]
      constructor
      · exact fun ⟨h, n⟩ => ⟨.inr h, n⟩
      · rintro ⟨h | h, n⟩
        · exact absurd (by rw [h]) n
        · exact ⟨h, n⟩
    · simp only [Memory.erase, hk, if_false, ih, List.mem_cons]
      constructor
      · rintro (h | h)
        · exact ⟨.inl h, by rw [h]; exact hk⟩
        · exact ⟨.inr h.1, h.2⟩
      · rintro ⟨h | h, n⟩
        · exact .inl h
        · exact .inr ⟨h, n⟩

theorem Memory.mem_insert (m : Memory) (a : Nat) (v : Byte) (c : Host.Cell) :
    c ∈ m.insert a v ↔ c = (a, v) ∨ c ∈ m := by
  induction m with
  | nil => simp [Memory.insert]
  | cons d rest ih =>
    obtain ⟨k, w⟩ := d
    by_cases hk : k < a
    · simp [Memory.insert, hk, ih, or_left_comm]
    · simp [Memory.insert, hk]

/-- A read after a write gives the written byte at its address and the old byte everywhere else. -/
@[simp] theorem Memory.read_write (m : Memory) (a x : Nat) (v : Byte) :
    (m.write a v).read x = if x = a then v else m.read x := by
  by_cases hv : v = 0
  · simp [Memory.write, hv, Memory.read_erase]
  · simp only [Memory.write, hv, if_false]
    rw [Memory.read_insert _ _ _ _ (fun c hc => ((Memory.mem_erase m a c).mp hc).2), Memory.read_erase]
    split <;> rfl

/-! ## The canonical form -/

theorem Memory.wfBelow_erase {bound : Nat} {m : Memory} (h : Memory.wfBelow bound m) (a : Nat) :
    Memory.wfBelow bound (m.erase a) := by
  refine ⟨?_, fun c hc => h.2 c ((Memory.mem_erase m a c).mp hc).1⟩
  obtain ⟨hp, -⟩ := h
  induction m with
  | nil => simp [Memory.erase]
  | cons d rest ih =>
    obtain ⟨k, v⟩ := d
    rw [List.pairwise_cons] at hp
    by_cases hk : k = a
    · simpa [Memory.erase, hk] using ih hp.2
    · simp only [Memory.erase, hk, if_false, List.pairwise_cons]
      exact ⟨fun c hc => hp.1 c ((Memory.mem_erase rest a c).mp hc).1, ih hp.2⟩

theorem Memory.pairwise_insert {m : Memory} (hp : m.Pairwise (fun x y => x.1 < y.1)) (a : Nat) (v : Byte)
    (ha : ∀ c ∈ m, c.1 ≠ a) : (m.insert a v).Pairwise (fun x y => x.1 < y.1) := by
  induction m with
  | nil => simp [Memory.insert]
  | cons d rest ih =>
    obtain ⟨k, w⟩ := d
    rw [List.pairwise_cons] at hp
    have hk : k ≠ a := ha (k, w) (by simp)
    by_cases hlt : k < a
    · simp only [Memory.insert, hlt, if_true, List.pairwise_cons]
      refine ⟨fun c hc => ?_, ih hp.2 (fun c hc => ha c (by simp [hc]))⟩
      obtain rfl | hc := (Memory.mem_insert rest a v c).mp hc
      · exact hlt
      · exact hp.1 c hc
    · have hgt : a < k := by omega
      simp only [Memory.insert, hlt, if_false, List.pairwise_cons]
      refine ⟨fun c hc => ?_, hp⟩
      obtain rfl | hc := List.mem_cons.mp hc
      · exact hgt
      · exact Nat.lt_trans hgt (hp.1 c hc)

/-- A write below the bound keeps the canonical form. -/
theorem Memory.wfBelow_write {bound : Nat} {m : Memory} (h : Memory.wfBelow bound m) {a : Nat} (ha : a < bound)
    (v : Byte) : Memory.wfBelow bound (m.write a v) := by
  by_cases hv : v = 0
  · simpa [Memory.write, hv] using Memory.wfBelow_erase h a
  · have he := Memory.wfBelow_erase h a
    simp only [Memory.write, hv, if_false]
    refine ⟨Memory.pairwise_insert he.1 a v (fun c hc => ((Memory.mem_erase m a c).mp hc).2), fun c hc => ?_⟩
    obtain rfl | hc := (Memory.mem_insert _ a v c).mp hc
    · exact ⟨ha, hv⟩
    · exact he.2 c hc

/-- Every one-byte store keeps the canonical form of memory. -/
theorem Memory.wf_write {m : Memory} (h : m.wf) (a : Word) (v : Byte) : (m.write a.toNat v).wf :=
  Memory.wfBelow_write h a.isLt v

/-- Every port write keeps the canonical form of its bank. -/
theorem Memory.portWf_write {m : Memory} (h : m.portWf) (n : Byte) (v : Byte) : (m.write n.toNat v).portWf :=
  Memory.wfBelow_write h n.isLt v

/-! ## Images -/

theorem cellsFrom_ge (image : List Nat) (start : Nat) : ∀ c ∈ cellsFrom start image, start ≤ c.1 := by
  induction image generalizing start with
  | nil => simp [cellsFrom]
  | cons n rest ih =>
    intro c hc
    simp only [cellsFrom] at hc
    split at hc
    · exact Nat.le_of_succ_le (ih (start + 1) c hc)
    · obtain rfl | hc := List.mem_cons.mp hc
      · exact Nat.le_refl _
      · exact Nat.le_of_succ_le (ih (start + 1) c hc)

theorem wfBelow_cellsFrom (image : List Nat) (start : Nat) :
    Memory.wfBelow (start + image.length) (cellsFrom start image) := by
  induction image generalizing start with
  | nil => exact ⟨by simp [cellsFrom], by simp [cellsFrom]⟩
  | cons n rest ih =>
    have ih := ih (start + 1)
    have hb : start + 1 + rest.length = start + (n :: rest).length := by simp; omega
    rw [hb] at ih
    simp only [cellsFrom]
    split
    · exact ih
    · next hv =>
      refine ⟨List.pairwise_cons.mpr ⟨fun c hc => ?_, ih.1⟩, fun c hc => ?_⟩
      · exact cellsFrom_ge rest (start + 1) c hc
      · obtain rfl | hc := List.mem_cons.mp hc
        · exact ⟨by simp, hv⟩
        · exact ih.2 c hc

theorem read_cellsFrom (image : List Nat) (start x : Nat) (hx : start ≤ x) :
    Memory.read (cellsFrom start image) x = BitVec.ofNat 8 (image.getD (x - start) 0) := by
  induction image generalizing start with
  | nil => simp [cellsFrom, Memory.read]
  | cons n rest ih =>
    by_cases he : x = start
    · subst he
      simp only [cellsFrom, Nat.sub_self, List.getD_cons_zero]
      split
      · next hv =>
        rw [hv]
        have : ∀ c ∈ cellsFrom (x + 1) rest, c.1 ≠ x := fun c hc => by
          have := cellsFrom_ge rest (x + 1) c hc
          omega
        generalize cellsFrom (x + 1) rest = m at this
        induction m with
        | nil => rfl
        | cons d m ihm =>
          obtain ⟨k, w⟩ := d
          have hk : k ≠ x := this (k, w) (by simp)
          simpa [Memory.read, hk] using ihm (fun c hc => this c (by simp [hc]))
      · simp [Memory.read]
    · have hs : x - start = (x - (start + 1)) + 1 := by omega
      have ih := ih (start + 1) (by omega)
      simp only [cellsFrom, hs, List.getD_cons_succ]
      split
      · exact ih
      · simpa [Memory.read, Ne.symm he] using ih

/-- A restored memory is in canonical form, whatever the image. -/
theorem wf_restoredMemory (image : List Nat) : (restoredMemory image).wf := by
  unfold restoredMemory
  split
  · next h =>
    simp only [imageValid, Bool.and_eq_true, beq_iff_eq] at h
    have := wfBelow_cellsFrom image 0
    rwa [Nat.zero_add, h.1] at this
  · exact ⟨List.Pairwise.nil, by simp⟩

/-- Memory after a reset is in canonical form, whatever the preload. -/
theorem wf_resetMemory (cfg : Config) : (resetMemory cfg).wf := by
  unfold resetMemory
  split
  · exact ⟨List.Pairwise.nil, by simp⟩
  · exact wf_restoredMemory _

/-- The memory of the reset state is in canonical form. -/
theorem wf_reset : State.reset.mem.wf := by decide

end Sys2Proof.Machine
end

