-- ==== Sys2Proof/Laws/Ops.lean ====
section
/-! SUPPORT. One spec lemma for each shared operation of Machine/Ops: reads after writes, the stack primitives, and what
`perform` answers in each of its cases. -/

namespace Sys2Proof.Machine

variable (s : State)

/-! ## Bytes, words and ports -/

@[simp] theorem State.readByte_writeByte (a x : Word) (v : Byte) :
    (s.writeByte a v).readByte x = if x = a then v else s.readByte x := by
  simp [State.readByte, BitVec.toNat_inj]

@[simp] theorem State.readOutPort_writeOutPort (n x v : Byte) :
    (s.writeOutPort n v).readOutPort x = if x = n then v else s.readOutPort x := by
  simp [State.readOutPort, BitVec.toNat_inj]

@[simp] theorem State.readByte_writeWord (a v x : Word) :
    (s.writeWord a v).readByte x =
      if x = a + 1 then hiByte v else if x = a then loByte v else s.readByte x := by
  simp [State.writeWord]

/-- A byte read looks at memory only. -/
theorem State.readByte_congr {s t : State} (h : t.mem = s.mem) (x : Word) : t.readByte x = s.readByte x := by
  simp [State.readByte, h]

/-! ## Reads through an update that leaves memory alone -/

@[simp] theorem State.readByte_advance (n : Nat) (x : Word) : (s.advance n).readByte x = s.readByte x := rfl
@[simp] theorem State.readByte_setPc (v x : Word) : (s.setPc v).readByte x = s.readByte x := rfl
@[simp] theorem State.readByte_setSp (v x : Word) : (s.setSp v).readByte x = s.readByte x := rfl
@[simp] theorem State.readByte_setA (v : Byte) (x : Word) : (s.setA v).readByte x = s.readByte x := rfl
@[simp] theorem State.readByte_setFlags (f : Flags) (x : Word) : (s.setFlags f).readByte x = s.readByte x := rfl
@[simp] theorem State.readByte_emit (e : Event) (x : Word) : (s.emit e).readByte x = s.readByte x := rfl
@[simp] theorem State.readWord_advance (n : Nat) (x : Word) : (s.advance n).readWord x = s.readWord x := rfl
@[simp] theorem State.top16_advance (n : Nat) : (s.advance n).top16 = s.top16 := rfl

/-! ## The stack (40_dispatch R78) -/

/-- Push16 stores the low byte at the new SP and the high byte above it. -/
theorem State.readByte_push16 (v x : Word) :
    (s.push16 v).readByte x =
      if x = s.sp - 1 - 1 then loByte v else if x = s.sp - 1 then hiByte v else s.readByte x := by
  simp [State.push16]

/-- The word Pop16 returns after a Push16 is the word pushed. -/
@[simp] theorem State.top16_push16 (v : Word) : (s.push16 v).top16 = v := by
  have h : s.sp - 1 - 1 + 1 = s.sp - 1 := by bv_omega
  have h' : s.sp - 1 ≠ s.sp - 1 - 1 := by bv_omega
  rw [State.top16, State.readWord, State.push16_sp, State.readByte_push16, State.readByte_push16, if_pos rfl, h,
    if_neg h', if_pos rfl, ofBytes_hiByte_loByte]

/-- Push16 and then Pop16 leave SP as it was. -/
@[simp] theorem State.sp_drop16_push16 (v : Word) : (s.push16 v).drop16.sp = s.sp := by
  simp only [State.drop16_sp, State.push16_sp]
  bv_omega

/-! ## Dispatch (40_dispatch R70) -/

theorem perform_execute {i : Instr} {effect : State → State}
    (h : dispatchAction i.tier s.cfg.unnamedTierPolicy = .execute) :
    perform i effect s = .next (effect ((s.advance 1).advance (i.length - 1))) := by
  simp [perform, h]

theorem perform_raise {i : Instr} {effect : State → State}
    (h : dispatchAction i.tier s.cfg.unnamedTierPolicy = .raise) :
    perform i effect s = .next ((s.advance 1).raiseUnsupported i.opcode) := by
  simp [perform, h]

theorem perform_refuse {i : Instr} {effect : State → State}
    (h : dispatchAction i.tier s.cfg.unnamedTierPolicy = .refuse) :
    perform i effect s = .refused (.unnamedTier i.opcode s.pc) := by
  simp [perform, h]

/-- Everything `perform` can answer. -/
theorem perform_cases {i : Instr} {effect : State → State} {t : State} (h : perform i effect s = .next t) :
    (dispatchAction i.tier s.cfg.unnamedTierPolicy = .execute ∧
      t = effect ((s.advance 1).advance (i.length - 1))) ∨
    (dispatchAction i.tier s.cfg.unnamedTierPolicy = .raise ∧
      t = (s.advance 1).raiseUnsupported i.opcode) := by
  cases ha : dispatchAction i.tier s.cfg.unnamedTierPolicy with
  | execute => exact .inl ⟨rfl, by simpa [perform, ha] using h.symm⟩
  | raise => exact .inr ⟨rfl, by simpa [perform, ha] using h.symm⟩
  | refuse => simp [perform, ha] at h

/-- The two fetches together advance PC by the instruction's length. -/
theorem State.advance_advance (m n : Nat) : (s.advance m).advance n = s.advance (m + n) := by
  simp [State.advance, BitVec.add_assoc, BitVec.ofNat_add]

end Sys2Proof.Machine
end

