-- ==== Sys2Proof/Laws/Operands.lean ====
section
/-! SUPPORT. Spec lemmas for the operand forms: what a write through a code or a pair is seen as by a read through
another. -/

namespace Sys2Proof.Machine

variable (s : State)

/-! ## Pairs (10_state R14) -/

@[simp] theorem Regs.bc_setBc (r : Regs) (v : Word) : (r.setBc v).bc = v := by simp [Regs.bc, Regs.setBc]
@[simp] theorem Regs.de_setDe (r : Regs) (v : Word) : (r.setDe v).de = v := by simp [Regs.de, Regs.setDe]
@[simp] theorem Regs.hl_setHl (r : Regs) (v : Word) : (r.setHl v).hl = v := by simp [Regs.hl, Regs.setHl]

/-- A pair reads as it was written, and the other pairs as before. -/
@[simp] theorem State.readPair_writePair (rp rq : RegPair) (v : Word) :
    (s.writePair rp v).readPair rq = if rq = rp then v else s.readPair rq := by
  cases rp <;> cases rq <;> first | rfl | simp [State.readPair, State.writePair]

@[simp] theorem State.readByte_writePair (rp : RegPair) (v x : Word) :
    (s.writePair rp v).readByte x = s.readByte x := by
  cases rp <;> rfl

/-! ## Register codes (40_dispatch R77) -/

/-- A code reads as it was written, except that a write to H or L moves the memory operand M. -/
theorem State.readR_writeR (r : R8) (v : Byte) : (s.writeR r v).readR r = v := by
  cases r <;> simp [State.readR, State.writeR]

/-- A write to one register leaves the other registers alone; a write to M leaves all of them alone. -/
theorem State.readR_writeR_ne {r q : R8} (v : Byte) (h : q ≠ r) (hm : q ≠ .m) :
    (s.writeR r v).readR q = s.readR q := by
  cases r <;> cases q <;> first | exact absurd rfl h | exact absurd rfl hm | rfl

/-- A write to M changes the byte at HL and no other; a write to a register changes no byte. -/
theorem State.readByte_writeR (r : R8) (v : Byte) (x : Word) :
    (s.writeR r v).readByte x = if r = .m ∧ x = s.regs.hl then v else s.readByte x := by
  cases r <;> simp [State.writeR] <;> rfl

@[simp] theorem State.readR_advance (n : Nat) (r : R8) : (s.advance n).readR r = s.readR r := by cases r <;> rfl

@[simp] theorem State.readPair_advance (n : Nat) (rp : RegPair) : (s.advance n).readPair rp = s.readPair rp := by
  cases rp <;> rfl

end Sys2Proof.Machine
end

