-- ==== Sys2Proof/Laws/Exec.lean ====
section
/-! SUPPORT. What every instruction's effect keeps, said once for each shared effect, and the one fact about `exec` that
carries it to all 256 arms: each arm is `perform` of its own constructor with such an effect. -/

namespace Sys2Proof.Machine

/-- What no effect of an instruction touches, and the canonical forms it keeps. -/
structure Keeps (s t : State) : Prop where
  inPort : t.inPort = s.inPort
  ctrl : t.ctrl = s.ctrl
  breakPending : t.breakPending = s.breakPending
  cfg : t.cfg = s.cfg
  hostMoves : t.hostMoves = s.hostMoves
  memWf : s.mem.wf → t.mem.wf
  outWf : s.outPort.portWf → t.outPort.portWf

theorem Keeps.refl (s : State) : Keeps s s := ⟨rfl, rfl, rfl, rfl, rfl, id, id⟩

theorem Keeps.trans {s t u : State} (h : Keeps s t) (g : Keeps t u) : Keeps s u :=
  ⟨g.inPort.trans h.inPort, g.ctrl.trans h.ctrl, g.breakPending.trans h.breakPending, g.cfg.trans h.cfg,
    g.hostMoves.trans h.hostMoves, g.memWf ∘ h.memWf, g.outWf ∘ h.outWf⟩

variable (s : State)

/-! ## The named updates -/

theorem keeps_advance (n : Nat) : Keeps s (s.advance n) := ⟨rfl, rfl, rfl, rfl, rfl, id, id⟩
theorem keeps_setPc (v : Word) : Keeps s (s.setPc v) := ⟨rfl, rfl, rfl, rfl, rfl, id, id⟩
theorem keeps_setSp (v : Word) : Keeps s (s.setSp v) := ⟨rfl, rfl, rfl, rfl, rfl, id, id⟩
theorem keeps_setA (v : Byte) : Keeps s (s.setA v) := ⟨rfl, rfl, rfl, rfl, rfl, id, id⟩
theorem keeps_setFlags (f : Flags) : Keeps s (s.setFlags f) := ⟨rfl, rfl, rfl, rfl, rfl, id, id⟩
theorem keeps_emit (e : Event) : Keeps s (s.emit e) := ⟨rfl, rfl, rfl, rfl, rfl, id, id⟩

theorem keeps_writeByte (a : Word) (v : Byte) : Keeps s (s.writeByte a v) :=
  ⟨rfl, rfl, rfl, rfl, rfl, fun h => Memory.wf_write h a v, id⟩

theorem keeps_writeOutPort (n v : Byte) : Keeps s (s.writeOutPort n v) :=
  ⟨rfl, rfl, rfl, rfl, rfl, id, fun h => Memory.portWf_write h n v⟩

theorem keeps_writeWord (a v : Word) : Keeps s (s.writeWord a v) :=
  (keeps_writeByte s _ _).trans (keeps_writeByte _ _ _)

theorem keeps_writePair (rp : RegPair) (v : Word) : Keeps s (s.writePair rp v) := by
  cases rp <;> exact ⟨rfl, rfl, rfl, rfl, rfl, id, id⟩

theorem keeps_writeR (r : R8) (v : Byte) : Keeps s (s.writeR r v) := by
  cases r <;> first | exact ⟨rfl, rfl, rfl, rfl, rfl, id, id⟩ | exact keeps_writeByte s _ v

theorem keeps_push16 (v : Word) : Keeps s (s.push16 v) :=
  (keeps_setSp s _).trans <| (keeps_writeByte _ _ _).trans <| (keeps_setSp _ _).trans (keeps_writeByte _ _ _)

theorem keeps_drop16 : Keeps s s.drop16 := keeps_setSp s _

/-! ## The effects of the families: one lemma each -/

theorem keeps_setResult (x : AluResult) : Keeps s (s.setResult x) := (keeps_setA s _).trans (keeps_setFlags _ _)

theorem keeps_setLogic (r : Byte) (ac : Bool) : Keeps s (s.setLogic r ac) :=
  (keeps_setA s _).trans (keeps_setFlags _ _)

theorem keeps_setRotated (a : Byte) (c : Bool) : Keeps s (s.setRotated a c) :=
  (keeps_setA s _).trans (keeps_setFlags _ _)

theorem keeps_mov (dst src : R8) : Keeps s (movEffect dst src s) := keeps_writeR s _ _
theorem keeps_mvi (dst : R8) (d8 : Byte) : Keeps s (mviEffect dst d8 s) := keeps_writeR s _ _
theorem keeps_lxi (rp : RegPair) (d16 : Word) : Keeps s (lxiEffect rp d16 s) := keeps_writePair s _ _
theorem keeps_lda (a16 : Word) : Keeps s (ldaEffect a16 s) := keeps_setA s _
theorem keeps_sta (a16 : Word) : Keeps s (staEffect a16 s) := (keeps_writeByte s _ _).trans (keeps_emit _ _)
theorem keeps_ldax (rp : IndexPair) : Keeps s (ldaxEffect rp s) := keeps_setA s _
theorem keeps_stax (rp : IndexPair) : Keeps s (staxEffect rp s) := keeps_writeByte s _ _
theorem keeps_lhld (a16 : Word) : Keeps s (lhldEffect a16 s) := keeps_writePair s _ _
theorem keeps_shld (a16 : Word) : Keeps s (shldEffect a16 s) := keeps_writeWord s _ _
theorem keeps_xchg : Keeps s (xchgEffect s) := ⟨rfl, rfl, rfl, rfl, rfl, id, id⟩

theorem keeps_reg {effect : Byte → State → State} (h : ∀ v s, Keeps s (effect v s)) (src : R8) :
    Keeps s (regEffect effect src s) := h _ s

theorem keeps_add (v : Byte) : Keeps s (addEffect v s) := keeps_setResult s _
theorem keeps_adc (v : Byte) : Keeps s (adcEffect v s) := keeps_setResult s _
theorem keeps_sub (v : Byte) : Keeps s (subEffect v s) := keeps_setResult s _
theorem keeps_sbb (v : Byte) : Keeps s (sbbEffect v s) := keeps_setResult s _
theorem keeps_inr (dst : R8) : Keeps s (inrEffect dst s) := (keeps_writeR s _ _).trans (keeps_setFlags _ _)
theorem keeps_dcr (dst : R8) : Keeps s (dcrEffect dst s) := (keeps_writeR s _ _).trans (keeps_setFlags _ _)
theorem keeps_inx (rp : RegPair) : Keeps s (inxEffect rp s) := keeps_writePair s _ _
theorem keeps_dcx (rp : RegPair) : Keeps s (dcxEffect rp s) := keeps_writePair s _ _
theorem keeps_dad (rp : RegPair) : Keeps s (dadEffect rp s) := (keeps_writePair s _ _).trans (keeps_setFlags _ _)
theorem keeps_daa : Keeps s (daaEffect s) := keeps_setResult s _

theorem keeps_ana (v : Byte) : Keeps s (anaEffect v s) := keeps_setLogic s _ _
theorem keeps_xra (v : Byte) : Keeps s (xraEffect v s) := keeps_setLogic s _ _
theorem keeps_ora (v : Byte) : Keeps s (oraEffect v s) := keeps_setLogic s _ _
theorem keeps_cmp (v : Byte) : Keeps s (cmpEffect v s) := keeps_setFlags s _
theorem keeps_rlc : Keeps s (rlcEffect s) := keeps_setRotated s _ _
theorem keeps_rrc : Keeps s (rrcEffect s) := keeps_setRotated s _ _
theorem keeps_ral : Keeps s (ralEffect s) := keeps_setRotated s _ _
theorem keeps_rar : Keeps s (rarEffect s) := keeps_setRotated s _ _
theorem keeps_cma : Keeps s (cmaEffect s) := keeps_setA s _
theorem keeps_cmc : Keeps s (cmcEffect s) := keeps_setFlags s _
theorem keeps_stc : Keeps s (stcEffect s) := keeps_setFlags s _

theorem keeps_jmp (a16 : Word) : Keeps s (jmpEffect a16 s) := keeps_setPc s _
theorem keeps_pchl : Keeps s (pchlEffect s) := keeps_setPc s _
theorem keeps_call (a16 : Word) : Keeps s (callEffect a16 s) := (keeps_push16 s _).trans (keeps_setPc _ _)
theorem keeps_ret : Keeps s (retEffect s) := (keeps_drop16 s).trans (keeps_setPc _ _)

theorem keeps_jcc (cond : Cond) (a16 : Word) : Keeps s (jccEffect cond a16 s) := by
  unfold jccEffect
  split
  · exact keeps_setPc s a16
  · exact Keeps.refl s

theorem keeps_ccc (cond : Cond) (a16 : Word) : Keeps s (cccEffect cond a16 s) := by
  unfold cccEffect
  split
  · exact keeps_call s a16
  · exact Keeps.refl s

theorem keeps_rcc (cond : Cond) : Keeps s (rccEffect cond s) := by
  unfold rccEffect
  split
  · exact keeps_ret s
  · exact Keeps.refl s

theorem keeps_writeStackPair (rp : StackPair) (v : Word) : Keeps s (s.writeStackPair rp v) := by
  cases rp <;> exact ⟨rfl, rfl, rfl, rfl, rfl, id, id⟩

theorem keeps_push (rp : StackPair) : Keeps s (pushEffect rp s) := keeps_push16 s _
theorem keeps_pop (rp : StackPair) : Keeps s (popEffect rp s) := (keeps_drop16 s).trans (keeps_writeStackPair _ _ _)
theorem keeps_xthl : Keeps s (xthlEffect s) := (keeps_writeWord s _ _).trans (keeps_writePair _ _ _)
theorem keeps_sphl : Keeps s (sphlEffect s) := keeps_setSp s _
theorem keeps_in (port : Byte) : Keeps s (inEffect port s) := keeps_setA s _
theorem keeps_out (port : Byte) : Keeps s (outEffect port s) := keeps_writeOutPort s _ _
theorem keeps_hlt : Keeps s (hltEffect s) := ⟨rfl, rfl, rfl, rfl, rfl, id, id⟩
theorem keeps_nop : Keeps s (nopEffect s) := Keeps.refl s

/-! ## All arms -/

/-- Each arm of `exec` is `perform` of its own constructor with an effect that keeps what `Keeps` names. -/
theorem exec_eq_perform (i : Instr) : ∃ effect, (∀ s, exec i s = perform i effect s) ∧ ∀ s, Keeps s (effect s) := by
  cases i
  all_goals first
    | (refine ⟨_, fun _ => rfl, fun s => ?_⟩
       with_reducible first
       | exact keeps_mov s _ _
       | exact keeps_reg s (fun v s => keeps_add s v) _
       | exact keeps_reg s (fun v s => keeps_adc s v) _
       | exact keeps_reg s (fun v s => keeps_sub s v) _
       | exact keeps_reg s (fun v s => keeps_sbb s v) _
       | exact keeps_reg s (fun v s => keeps_ana s v) _
       | exact keeps_reg s (fun v s => keeps_xra s v) _
       | exact keeps_reg s (fun v s => keeps_ora s v) _
       | exact keeps_reg s (fun v s => keeps_cmp s v) _
       | exact keeps_mvi s _ _
       | exact keeps_inr s _
       | exact keeps_dcr s _
       | exact keeps_jcc s _ _
       | exact keeps_ccc s _ _
       | exact keeps_rcc s _
       | exact keeps_lxi s _ _
       | exact keeps_inx s _
       | exact keeps_dcx s _
       | exact keeps_dad s _
       | exact keeps_push s _
       | exact keeps_pop s _
       | exact keeps_ldax s _
       | exact keeps_stax s _
       | exact keeps_lda s _
       | exact keeps_sta s _
       | exact keeps_lhld s _
       | exact keeps_shld s _
       | exact keeps_xchg s
       | exact keeps_add s _
       | exact keeps_adc s _
       | exact keeps_sub s _
       | exact keeps_sbb s _
       | exact keeps_ana s _
       | exact keeps_xra s _
       | exact keeps_ora s _
       | exact keeps_cmp s _
       | exact keeps_daa s
       | exact keeps_rlc s
       | exact keeps_rrc s
       | exact keeps_ral s
       | exact keeps_rar s
       | exact keeps_cma s
       | exact keeps_cmc s
       | exact keeps_stc s
       | exact keeps_jmp s _
       | exact keeps_pchl s
       | exact keeps_call s _
       | exact keeps_ret s
       | exact keeps_xthl s
       | exact keeps_sphl s
       | exact keeps_in s _
       | exact keeps_out s _
       | exact keeps_hlt s
       | exact keeps_nop s)
    | exact ⟨unsupportedEffect, fun _ => rfl, Keeps.refl⟩

/-- What a completed instruction keeps. -/
theorem exec_keeps {i : Instr} {s t : State} (h : exec i s = .next t) : Keeps s t := by
  obtain ⟨effect, he, hk⟩ := exec_eq_perform i
  rw [he] at h
  obtain ⟨-, rfl⟩ | ⟨-, rfl⟩ := perform_cases s h
  · exact (keeps_advance s 1).trans <| (keeps_advance _ _).trans (hk _)
  · exact (keeps_advance s 1).trans (keeps_emit _ _)

end Sys2Proof.Machine
end

