-- ==== Sys2Proof/Laws/Fetch.lean ====
section
/-! SUPPORT. Fetch and decode agree: the bytes that an instruction does not have are read and not looked at. -/

namespace Sys2Proof

/-- A one-byte instruction does not depend on the bytes after its opcode. -/
theorem decodeFields_of_length_one (op b2 b3 : Byte) (h : opcodeLength op = 1) :
    decodeFields op b2 b3 = decodeFields op 0 0 := by
  have key : ∀ n : Fin 256, opcodeLength (BitVec.ofFin (w := 8) n) = 1 →
      decodeFields (BitVec.ofFin (w := 8) n) b2 b3 = decodeFields (BitVec.ofFin (w := 8) n) 0 0 := by
    intro n
    fin_cases n <;> intro hn <;> first
      | exact absurd hn (by decide)
      | simp [decodeFields, topField, midField, lowField, rpField, decodeQuarter0, decodeQuarter3]
  exact key op.toFin h

/-- A two-byte instruction does not depend on the byte after its immediate. -/
theorem decodeFields_of_length_two (op b2 b3 : Byte) (h : opcodeLength op = 2) :
    decodeFields op b2 b3 = decodeFields op b2 0 := by
  have key : ∀ n : Fin 256, opcodeLength (BitVec.ofFin (w := 8) n) = 2 →
      decodeFields (BitVec.ofFin (w := 8) n) b2 b3 = decodeFields (BitVec.ofFin (w := 8) n) b2 0 := by
    intro n
    fin_cases n <;> intro hn <;> first
      | exact absurd hn (by decide)
      | simp [decodeFields, topField, midField, lowField, decodeQuarter0, decodeQuarter3]
  exact key op.toFin h

/-- An instruction is one, two or three bytes long (30_encoding R55). -/
theorem opcodeLength_cases (op : Byte) : opcodeLength op = 1 ∨ opcodeLength op = 2 ∨ opcodeLength op = 3 := by
  have key : ∀ n : Fin 256, opcodeLength (BitVec.ofFin (w := 8) n) = 1 ∨
      opcodeLength (BitVec.ofFin (w := 8) n) = 2 ∨ opcodeLength (BitVec.ofFin (w := 8) n) = 3 := by
    intro n
    fin_cases n <;> decide
  exact key op.toFin

/-- What the decoder reads from three bytes. -/
theorem decode_three_bytes {op b2 b3 : Byte} {i : Instr} {rest : List Byte}
    (h : decode [op, b2, b3] = .ok (i, rest)) : i = decodeFields op b2 b3 := by
  rcases opcodeLength_cases op with hl | hl | hl
  · rw [decodeFields_of_length_one op b2 b3 hl]
    simp only [decode, hl, Except.ok.injEq, Prod.mk.injEq] at h
    exact h.1.symm
  · rw [decodeFields_of_length_two op b2 b3 hl]
    simp only [decode, hl, Except.ok.injEq, Prod.mk.injEq] at h
    exact h.1.symm
  · simp only [decode, hl, Except.ok.injEq, Prod.mk.injEq] at h
    exact h.1.symm

/-- The fetch reads the instruction that the decoder reads from the three bytes at PC. -/
theorem Machine.State.fetchInstr_of_decode {s : Machine.State} {i : Instr} {rest : List Byte}
    (h : decode [s.readByte s.pc, s.readByte (s.pc + 1), s.readByte (s.pc + 2)] = .ok (i, rest)) :
    s.fetchInstr = i := (decode_three_bytes h).symm

end Sys2Proof
end

