-- ==== Sys2Proof/Laws/Flags.lean ====
section
/-! SUPPORT. What the ALU gives, once for each of its functions, in the terms of Safety.lean: a proof about an instruction
cites these and never opens the ALU's own computations. -/

namespace Sys2Proof.Machine

/-! ## Z, S, P -/

theorem getLsbD_toNat (r : Byte) (k : Nat) : (r.getLsbD k).toNat = r.toNat / 2 ^ k % 2 := by
  rw [BitVec.getLsbD, Nat.testBit_eq_decide_div_mod_eq]
  rcases Nat.mod_two_eq_zero_or_one (r.toNat / 2 ^ k) with h | h <;> rw [h] <;> rfl

theorem getLsbD_seven (r : Byte) : r.getLsbD 7 = true ↔ 128 ≤ r.toNat := by
  have h := getLsbD_toNat r 7
  have hr := r.isLt
  cases hb : r.getLsbD 7 <;> rw [hb] at h <;> simp at h ⊢ <;> omega

theorem getLsbD_zero (r : Byte) : r.getLsbD 0 = true ↔ r.toNat % 2 = 1 := by
  have h := getLsbD_toNat r 0
  cases hb : r.getLsbD 0 <;> rw [hb] at h <;> simp at h ⊢ <;> omega

/-- The model's count of set bits is the count over the eight positions. -/
theorem bitsSet_eq_popcount (r : Byte) : bitsSet r = popcount r := by
  have hk (n : Nat) : (if (n % 2 == 1) = true then 1 else 0) = n % 2 := by
    rcases Nat.mod_two_eq_zero_or_one n with h | h <;> rw [h] <;> rfl
  have hr : List.range 8 = [0, 1, 2, 3, 4, 5, 6, 7] := rfl
  simp only [bitsSet, popcount, getLsbD_toNat, ← List.countP_eq_length_filter, hr, List.countP_cons, List.countP_nil, hk,
    Nat.zero_add]
  omega

/-- The three flag helpers give the flags of the result byte (10_state R20, R21, R22). -/
theorem flagsOfResult (f : Flags) (r : Byte) (hz : f.z = zeroFlag r) (hs : f.s = signFlag r) (hp : f.p = parityFlag r) :
    FlagsOfResult f r := by
  refine ⟨?_, ?_, ?_⟩
  · rw [hz, zeroFlag, decide_eq_true_eq]
    exact ⟨fun h => by rw [h]; rfl, fun h => BitVec.eq_of_toNat_eq h⟩
  · rw [hs]
    exact getLsbD_seven r
  · rw [hp, parityFlag, bitsSet_eq_popcount, beq_iff_eq]

theorem flagsOfResult_setZSP (f : Flags) (r : Byte) : FlagsOfResult (f.setZSP r) r := flagsOfResult _ r rfl rfl rfl

theorem flagsOfResult_alu (x : AluResult) : FlagsOfResult x.flags x.r := flagsOfResult _ _ rfl rfl rfl

/-! ## The adder, the subtracter, the logic unit -/

theorem addAlu_gives (a v : Byte) (cin : Bool) :
    AdderGives a v cin (addAlu a v cin).r (addAlu a v cin).flags := by
  refine ⟨by simp [addAlu], flagsOfResult_alu _, ?_, ?_⟩
  · simp only [addAlu, AluResult.flags, decide_eq_true_eq]
    omega
  · simp only [addAlu, AluResult.flags, decide_eq_true_eq]
    simp only [lowNibble]
    omega

theorem subAlu_gives (mode : SubAuxCarry) (a v : Byte) (bin : Bool) :
    SubtracterGives mode a v bin (subAlu mode a v bin).r (subAlu mode a v bin).flags := by
  have hb : bin.toNat ≤ 1 := by cases bin <;> decide
  have ha := a.isLt
  have hv := v.isLt
  refine ⟨?_, flagsOfResult_alu _, ?_, ?_, ?_⟩
  · simp only [subAlu, BitVec.toNat_ofInt]
    omega
  · simp only [subAlu, AluResult.flags, decide_eq_true_eq]
    omega
  · rintro rfl
    simp only [subAlu, AluResult.flags, auxFromBorrow, decide_eq_true_eq]
    simp only [lowNibble]
    omega
  · rintro rfl
    simp only [subAlu, AluResult.flags, auxFromBorrow, Bool.not_eq_true', decide_eq_false_iff_not]
    simp only [lowNibble]
    omega

theorem logicFlags_gives (r : Byte) (ac : Bool) : LogicGives ac r (logicFlags r ac) :=
  ⟨flagsOfResult _ r rfl rfl rfl, rfl, rfl⟩

/-! ## Decimal adjust, rotates, the flag byte -/

theorem daaAlu_r_toNat (a : Byte) (cy ac : Bool) :
    (daaAlu a cy ac).r.toNat = (a.toNat + daaCorrection a cy ac) % 256 := by simp [daaAlu]

theorem daaAlu_cy (a : Byte) (cy ac : Bool) : (daaAlu a cy ac).cy = true ↔ a.toNat > 0x99 ∨ cy = true := by
  simp [daaAlu, or_comm]

theorem shiftLeftIn_toNat (a : Byte) (c : Bool) : (shiftLeftIn a c).toNat = a.toNat * 2 % 256 + c.toNat := by
  have hc : c.toNat ≤ 1 := by cases c <;> decide
  simp only [shiftLeftIn, BitVec.toNat_ofNat]
  omega

theorem shiftRightIn_toNat (a : Byte) (c : Bool) : (shiftRightIn a c).toNat = a.toNat / 2 + c.toNat * 128 := by
  have hc : c.toNat ≤ 1 := by cases c <;> decide
  have ha := a.isLt
  simp only [shiftRightIn, BitVec.toNat_ofNat]
  omega

theorem flagByte_toNat (cfg : Config) (f : Flags) :
    (flagByte cfg f).toNat = f.s.toNat * 128 + f.z.toNat * 64 + cfg.fill5.toNat * 32 + f.ac.toNat * 16 +
      cfg.fill3.toNat * 8 + f.p.toNat * 4 + cfg.fill1.toNat * 2 + f.cy.toNat := by
  have hb (b : Bool) : b.toNat ≤ 1 := by cases b <;> decide
  have h1 := hb f.s
  have h2 := hb f.z
  have h3 := hb cfg.fill5
  have h4 := hb f.ac
  have h5 := hb cfg.fill3
  have h6 := hb f.p
  have h7 := hb cfg.fill1
  have h8 := hb f.cy
  simp only [flagByte, BitVec.toNat_ofNat]
  omega

end Sys2Proof.Machine
end

