-- ==== Sys2Proof/Laws/Next.lean ====
section
/-! SUPPORT. One equation for each family of instructions: `exec` answers the next state that its effect gives, from the state
whose PC is already past the instruction. A proof about an instruction starts from its equation here and never unfolds
`perform`, the tiers or the lengths. -/

namespace Sys2Proof.Machine

variable (s : State)

/-! ## The transaction of an opcode whose tier is known -/

/-- An opcode of tier `source`, `n` bytes long, completes. -/
theorem perform_source {i : Instr} {effect : State → State} (op : Byte) (n : Nat) (ho : i.opcode = op)
    (ht : opcodeTier op = .source) (hn : opcodeLength op = n + 1) :
    perform i effect s = .next (effect (s.advance (n + 1))) := by
  have h : dispatchAction i.tier s.cfg.unnamedTierPolicy = .execute := by rw [Instr.tier, ho, ht]; rfl
  rw [perform_execute s h, State.advance_advance, Instr.length, ho, hn, Nat.add_sub_cancel, Nat.add_comm]

/-- An opcode of tier `unnamed`, `n` bytes long, completes under `execute`. -/
theorem perform_unnamed {i : Instr} {effect : State → State} (op : Byte) (n : Nat)
    (hp : s.cfg.unnamedTierPolicy = .execute) (ho : i.opcode = op) (ht : opcodeTier op = .unnamed)
    (hn : opcodeLength op = n + 1) : perform i effect s = .next (effect (s.advance (n + 1))) := by
  have h : dispatchAction i.tier s.cfg.unnamedTierPolicy = .execute := by rw [Instr.tier, ho, ht, hp]; rfl
  rw [perform_execute s h, State.advance_advance, Instr.length, ho, hn, Nat.add_sub_cancel, Nat.add_comm]

/-! ## Data transfer -/

theorem exec_mov (dst src : R8) (h : ¬ (dst = .m ∧ src = .m)) :
    exec (Instr.mov dst src) s = .next (movEffect dst src (s.advance 1)) := by
  have he : exec (Instr.mov dst src) s = perform (Instr.mov dst src) (movEffect dst src) s := by
    cases dst <;> cases src <;> first | rfl | exact absurd ⟨rfl, rfl⟩ h
  rw [he]
  cases dst <;> cases src <;> first
    | exact absurd ⟨rfl, rfl⟩ h
    | exact perform_source s _ 0 rfl rfl rfl

theorem exec_mvi (d8 : Byte) (dst : R8) : exec (Instr.mvi d8 dst) s = .next (mviEffect dst d8 (s.advance 2)) := by
  have he : exec (Instr.mvi d8 dst) s = perform (Instr.mvi d8 dst) (mviEffect dst d8) s := by cases dst <;> rfl
  rw [he]
  refine perform_source s (opcodeOfFields 0 dst.code 6) 1 ?_ ?_ ?_ <;> cases dst <;> rfl

theorem exec_lxi (d16 : Word) (rp : RegPair) (hp : s.cfg.unnamedTierPolicy = .execute) :
    exec (Instr.lxi d16 rp) s = .next (lxiEffect rp d16 (s.advance 3)) := by
  cases rp
  · exact perform_unnamed s 0x01 2 hp rfl rfl rfl
  · exact perform_unnamed s 0x11 2 hp rfl rfl rfl
  · exact perform_unnamed s 0x21 2 hp rfl rfl rfl
  · exact perform_unnamed s 0x31 2 hp rfl rfl rfl

theorem exec_lda (a16 : Word) : exec (.lda a16) s = .next (ldaEffect a16 (s.advance 3)) :=
  perform_source s (i := (.lda a16)) (effect := ldaEffect a16) 0x3A 2 rfl rfl rfl

theorem exec_sta (a16 : Word) : exec (.sta a16) s = .next (staEffect a16 (s.advance 3)) :=
  perform_source s (i := (.sta a16)) (effect := staEffect a16) 0x32 2 rfl rfl rfl

theorem exec_ldax (rp : IndexPair) : exec (Instr.ldax rp) s = .next (ldaxEffect rp (s.advance 1)) := by
  have he : exec (Instr.ldax rp) s = perform (Instr.ldax rp) (ldaxEffect rp) s := by cases rp <;> rfl
  rw [he]
  cases rp <;> exact perform_source s _ 0 rfl rfl rfl

theorem exec_stax (rp : IndexPair) : exec (Instr.stax rp) s = .next (staxEffect rp (s.advance 1)) := by
  have he : exec (Instr.stax rp) s = perform (Instr.stax rp) (staxEffect rp) s := by cases rp <;> rfl
  rw [he]
  cases rp <;> exact perform_source s _ 0 rfl rfl rfl

theorem exec_lhld (a16 : Word) : exec (.lhld a16) s = .next (lhldEffect a16 (s.advance 3)) :=
  perform_source s (i := (.lhld a16)) (effect := lhldEffect a16) 0x2A 2 rfl rfl rfl

theorem exec_shld (a16 : Word) : exec (.shld a16) s = .next (shldEffect a16 (s.advance 3)) :=
  perform_source s (i := (.shld a16)) (effect := shldEffect a16) 0x22 2 rfl rfl rfl

theorem exec_xchg (hp : s.cfg.unnamedTierPolicy = .execute) : exec .xchg s = .next (xchgEffect (s.advance 1)) :=
  perform_unnamed s (i := .xchg) (effect := xchgEffect) 0xEB 0 hp rfl rfl rfl

/-! ## Arithmetic, logic, compare -/

/-- The effect of an ALU operation on A with an operand byte. -/
def aluEffect : AluOp → Byte → State → State
  | .add => addEffect
  | .adc => adcEffect
  | .sub => subEffect
  | .sbb => sbbEffect
  | .ana => anaEffect
  | .xra => xraEffect
  | .ora => oraEffect
  | .cmp => cmpEffect

theorem exec_alu (op : AluOp) (src : R8) :
    exec (Instr.alu op src) s = .next (aluEffect op (s.readR src) (s.advance 1)) := by
  rw [← State.readR_advance s 1 src]
  have he : exec (Instr.alu op src) s = perform (Instr.alu op src) (regEffect (aluEffect op) src) s := by cases op <;> cases src <;> rfl
  rw [he]
  cases op <;> cases src <;> exact perform_source s _ 0 rfl rfl rfl

theorem exec_aluImm (d8 : Byte) (op : AluOp) :
    exec (Instr.aluImm d8 op) s = .next (aluEffect op d8 (s.advance 2)) := by
  have he : exec (Instr.aluImm d8 op) s = perform (Instr.aluImm d8 op) (aluEffect op d8) s := by cases op <;> rfl
  rw [he]
  refine perform_source s (opcodeOfFields 3 op.code 6) 1 ?_ ?_ ?_ <;> cases op <;> rfl

theorem exec_inr (dst : R8) : exec (Instr.inr dst) s = .next (inrEffect dst (s.advance 1)) := by
  have he : exec (Instr.inr dst) s = perform (Instr.inr dst) (inrEffect dst) s := by cases dst <;> rfl
  rw [he]
  cases dst <;> exact perform_source s _ 0 rfl rfl rfl

theorem exec_dcr (dst : R8) : exec (Instr.dcr dst) s = .next (dcrEffect dst (s.advance 1)) := by
  have he : exec (Instr.dcr dst) s = perform (Instr.dcr dst) (dcrEffect dst) s := by cases dst <;> rfl
  rw [he]
  cases dst <;> exact perform_source s _ 0 rfl rfl rfl

theorem exec_inx (rp : RegPair) : exec (Instr.inx rp) s = .next (inxEffect rp (s.advance 1)) := by
  have he : exec (Instr.inx rp) s = perform (Instr.inx rp) (inxEffect rp) s := by cases rp <;> rfl
  rw [he]
  cases rp <;> exact perform_source s _ 0 rfl rfl rfl

theorem exec_dcx (rp : RegPair) : exec (Instr.dcx rp) s = .next (dcxEffect rp (s.advance 1)) := by
  have he : exec (Instr.dcx rp) s = perform (Instr.dcx rp) (dcxEffect rp) s := by cases rp <;> rfl
  rw [he]
  cases rp <;> exact perform_source s _ 0 rfl rfl rfl

theorem exec_dad (rp : RegPair) : exec (Instr.dad rp) s = .next (dadEffect rp (s.advance 1)) := by
  have he : exec (Instr.dad rp) s = perform (Instr.dad rp) (dadEffect rp) s := by cases rp <;> rfl
  rw [he]
  cases rp <;> exact perform_source s _ 0 rfl rfl rfl

theorem exec_daa (hp : s.cfg.unnamedTierPolicy = .execute) : exec .daa s = .next (daaEffect (s.advance 1)) :=
  perform_unnamed s (i := .daa) (effect := daaEffect) 0x27 0 hp rfl rfl rfl

/-! ## Rotates, complement, carry -/

theorem exec_rlc : exec .rlc s = .next (rlcEffect (s.advance 1)) :=
  perform_source s (i := .rlc) (effect := rlcEffect) 0x07 0 rfl rfl rfl
theorem exec_rrc : exec .rrc s = .next (rrcEffect (s.advance 1)) :=
  perform_source s (i := .rrc) (effect := rrcEffect) 0x0F 0 rfl rfl rfl
theorem exec_ral : exec .ral s = .next (ralEffect (s.advance 1)) :=
  perform_source s (i := .ral) (effect := ralEffect) 0x17 0 rfl rfl rfl
theorem exec_rar : exec .rar s = .next (rarEffect (s.advance 1)) :=
  perform_source s (i := .rar) (effect := rarEffect) 0x1F 0 rfl rfl rfl
theorem exec_cma : exec .cma s = .next (cmaEffect (s.advance 1)) :=
  perform_source s (i := .cma) (effect := cmaEffect) 0x2F 0 rfl rfl rfl
theorem exec_cmc : exec .cmc s = .next (cmcEffect (s.advance 1)) :=
  perform_source s (i := .cmc) (effect := cmcEffect) 0x3F 0 rfl rfl rfl
theorem exec_stc : exec .stc s = .next (stcEffect (s.advance 1)) :=
  perform_source s (i := .stc) (effect := stcEffect) 0x37 0 rfl rfl rfl

/-! ## Branch, call, return -/

/-- The conditions whose jump is of tier `source` (30_encoding R65); JPO and JPE are of tier `unnamed`. -/
def jumpIsSource : Cond → Bool
  | .po => false
  | .pe => false
  | .nz => true
  | .z => true
  | .nc => true
  | .c => true
  | .p => true
  | .m => true

theorem exec_jmp (a16 : Word) : exec (.jmp a16) s = .next (jmpEffect a16 (s.advance 3)) :=
  perform_source s (i := (.jmp a16)) (effect := jmpEffect a16) 0xC3 2 rfl rfl rfl

theorem exec_jcc (a16 : Word) (cond : Cond)
    (h : jumpIsSource cond = true ∨ s.cfg.unnamedTierPolicy = .execute) :
    exec (Instr.jcc a16 cond) s = .next (jccEffect cond a16 (s.advance 3)) := by
  have he : exec (Instr.jcc a16 cond) s = perform (Instr.jcc a16 cond) (jccEffect cond a16) s := by cases cond <;> rfl
  rw [he]
  by_cases hc : jumpIsSource cond = true
  · refine perform_source s (opcodeOfFields 3 cond.code 2) 2 ?_ ?_ ?_ <;> cases cond <;> first | rfl | cases hc
  · refine perform_unnamed s (opcodeOfFields 3 cond.code 2) 2 (h.resolve_left hc) ?_ ?_ ?_ <;>
      cases cond <;> first | rfl | exact absurd rfl hc

theorem exec_pchl : exec .pchl s = .next (pchlEffect (s.advance 1)) :=
  perform_source s (i := .pchl) (effect := pchlEffect) 0xE9 0 rfl rfl rfl

theorem exec_call (a16 : Word) (hp : s.cfg.unnamedTierPolicy = .execute) : exec (.call a16) s = .next (callEffect a16 (s.advance 3)) :=
  perform_unnamed s (i := (.call a16)) (effect := callEffect a16) 0xCD 2 hp rfl rfl rfl

theorem exec_ccc (a16 : Word) (cond : Cond) (hp : s.cfg.unnamedTierPolicy = .execute) :
    exec (Instr.ccc a16 cond) s = .next (cccEffect cond a16 (s.advance 3)) := by
  have he : exec (Instr.ccc a16 cond) s = perform (Instr.ccc a16 cond) (cccEffect cond a16) s := by cases cond <;> rfl
  rw [he]
  refine perform_unnamed s (opcodeOfFields 3 cond.code 4) 2 hp ?_ ?_ ?_ <;> cases cond <;> rfl

theorem exec_ret : exec .ret s = .next (retEffect (s.advance 1)) :=
  perform_source s (i := .ret) (effect := retEffect) 0xC9 0 rfl rfl rfl

theorem exec_rcc (cond : Cond) (hp : s.cfg.unnamedTierPolicy = .execute) :
    exec (Instr.rcc cond) s = .next (rccEffect cond (s.advance 1)) := by
  have he : exec (Instr.rcc cond) s = perform (Instr.rcc cond) (rccEffect cond) s := by cases cond <;> rfl
  rw [he]
  cases cond <;> exact perform_unnamed s _ 0 hp rfl rfl rfl

/-! ## Stack, ports, machine control -/

theorem exec_push (rp : StackPair) : exec (Instr.push rp) s = .next (pushEffect rp (s.advance 1)) := by
  have he : exec (Instr.push rp) s = perform (Instr.push rp) (pushEffect rp) s := by cases rp <;> rfl
  rw [he]
  cases rp <;> exact perform_source s _ 0 rfl rfl rfl

theorem exec_pop (rp : StackPair) : exec (Instr.pop rp) s = .next (popEffect rp (s.advance 1)) := by
  have he : exec (Instr.pop rp) s = perform (Instr.pop rp) (popEffect rp) s := by cases rp <;> rfl
  rw [he]
  cases rp <;> exact perform_source s _ 0 rfl rfl rfl

theorem exec_xthl (hp : s.cfg.unnamedTierPolicy = .execute) : exec .xthl s = .next (xthlEffect (s.advance 1)) :=
  perform_unnamed s (i := .xthl) (effect := xthlEffect) 0xE3 0 hp rfl rfl rfl

theorem exec_sphl (hp : s.cfg.unnamedTierPolicy = .execute) : exec .sphl s = .next (sphlEffect (s.advance 1)) :=
  perform_unnamed s (i := .sphl) (effect := sphlEffect) 0xF9 0 hp rfl rfl rfl

theorem exec_inp (port : Byte) : exec (.inp port) s = .next (inEffect port (s.advance 2)) :=
  perform_source s (i := (.inp port)) (effect := inEffect port) 0xDB 1 rfl rfl rfl

theorem exec_outp (port : Byte) : exec (.outp port) s = .next (outEffect port (s.advance 2)) :=
  perform_source s (i := (.outp port)) (effect := outEffect port) 0xD3 1 rfl rfl rfl

theorem exec_hlt : exec .hlt s = .next (hltEffect (s.advance 1)) :=
  perform_source s (i := .hlt) (effect := hltEffect) 0x76 0 rfl rfl rfl

theorem exec_nop : exec .nop s = .next (nopEffect (s.advance 1)) :=
  perform_source s (i := .nop) (effect := nopEffect) 0x00 0 rfl rfl rfl

/-! ## Any instruction, by its tier -/

/-- An instruction of tier `unsupported` sends its event and advances PC by 1. -/
theorem exec_unsupported {i : Instr} (h : i.tier = .unsupported) :
    exec i s = .next ((s.advance 1).raiseUnsupported i.opcode) := by
  obtain ⟨effect, he, -⟩ := exec_eq_perform i
  rw [he, perform_raise s (by rw [h]; rfl)]

/-- What the policy makes of an instruction of tier `unnamed`. -/
theorem exec_unnamed_unsupported {i : Instr} (h : i.tier = .unnamed)
    (hp : s.cfg.unnamedTierPolicy = .unsupported) :
    exec i s = .next ((s.advance 1).raiseUnsupported i.opcode) := by
  obtain ⟨effect, he, -⟩ := exec_eq_perform i
  rw [he, perform_raise s (by rw [h, hp]; rfl)]

theorem exec_unnamed_refuse {i : Instr} (h : i.tier = .unnamed) (hp : s.cfg.unnamedTierPolicy = .refuse) :
    exec i s = .refused (.unnamedTier i.opcode s.pc) := by
  obtain ⟨effect, he, -⟩ := exec_eq_perform i
  rw [he, perform_refuse s (by rw [h, hp]; rfl)]

end Sys2Proof.Machine
end

