-- ==== Sys2Proof/Laws/Frames.lean ====
section
/-! SUPPORT. What the operations that write give, once for each of them, in the terms of Safety.lean. -/

namespace Sys2Proof.Machine

variable (s : State)

theorem storedByte_writeByte (a : Word) (v : Byte) : StoredByte a v s (s.writeByte a v) :=
  ⟨by simp, fun x hx => by simp [hx]⟩

theorem storedWord_writeWord (a v : Word) : StoredWord a v s (s.writeWord a v) := by
  refine ⟨?_, ?_, fun x hx hx' => ?_⟩
  · rw [State.readByte_writeWord, if_neg (word_ne_add_one a), if_pos rfl, loByte_toNat]
  · rw [State.readByte_writeWord, if_pos rfl, hiByte_toNat]
  · rw [State.readByte_writeWord, if_neg hx', if_neg hx]

theorem readWord_toNat (a : Word) : (s.readWord a).toNat = wordAt s a := ofBytes_toNat _ _

/-- Push16 stores the word at SP - 2. -/
theorem storedWord_push16 (v : Word) : StoredWord (s.sp - 2) v s (s.push16 v) := by
  have h1 : s.sp - 1 - 1 = s.sp - 2 := by bv_omega
  have h2 : s.sp - 2 + 1 = s.sp - 1 := by bv_omega
  have h3 : s.sp - 1 ≠ s.sp - 2 := by bv_omega
  refine ⟨?_, ?_, fun x hx hx' => ?_⟩
  · rw [State.readByte_push16, h1, if_pos rfl, loByte_toNat]
  · rw [State.readByte_push16, h1, h2, if_neg h3, if_pos rfl, hiByte_toNat]
  · rw [State.readByte_push16, h1, if_neg hx, if_neg (by rwa [← h2])]

/-- Push16 changes SP and memory, and nothing else. -/
theorem push16_eq (v : Word) : s.push16 v = { s with sp := s.sp - 2, mem := (s.push16 v).mem } := by
  have h : s.sp - 1 - 1 = s.sp - 2 := by bv_omega
  simp only [State.push16, State.setSp, State.writeByte, h]

/-- WriteR, after an advance of PC and with any flags written. -/
theorem operandWritten_writeR (dst : R8) (v : Byte) (n : Nat) (f : Flags) :
    OperandWritten dst v (BitVec.ofNat 16 n) s (((s.advance n).writeR dst v).setFlags f) := by
  unfold OperandWritten
  split
  · next h =>
    subst h
    exact ⟨rfl, storedByte_writeByte (s.advance n) _ _⟩
  · next h =>
    refine ⟨?_, ?_, fun r hr hm => ?_⟩
    · cases dst <;> first | rfl | exact absurd rfl h
    · refine Eq.trans ?_ (State.readR_writeR (s.advance n) dst v)
      cases dst <;> rfl
    · have hk := State.readR_writeR_ne (s.advance n) v hr hm
      rw [State.readR_advance] at hk
      refine Eq.trans ?_ hk
      cases r <;> rfl

/-- A write to a pair, after an advance of PC and with any flags written. -/
theorem pairWritten_writePair (rp : RegPair) (v : Word) (n : Nat) (f : Flags) :
    PairWritten rp v.toNat (BitVec.ofNat 16 n) s (((s.advance n).writePair rp v).setFlags f) := by
  refine ⟨by cases rp <;> rfl, ?_, by cases rp <;> first | exact ⟨rfl, rfl⟩ | rfl⟩
  have h := State.readPair_writePair (s.advance n) rp rp v
  rw [if_pos rfl] at h
  refine congrArg BitVec.toNat (Eq.trans ?_ h)
  cases rp <;> rfl

/-- A call by a 3-byte instruction. -/
theorem calledFrom_callEffect (a16 : Word) : CalledFrom a16 s (callEffect a16 (s.advance 3)) := by
  refine ⟨?_, storedWord_push16 (s.advance 3) _⟩
  unfold callEffect
  rw [push16_eq]
  rfl

/-- A return by a 1-byte instruction. -/
theorem returnedFrom_retEffect : ReturnedFrom s (retEffect (s.advance 1)) := by
  have h : s.sp + 1 + 1 = s.sp + 2 := by bv_omega
  refine ⟨?_, readWord_toNat _ _⟩
  simp only [retEffect, State.drop16, State.setSp, State.setPc, State.advance, h]

end Sys2Proof.Machine
end

