-- ==== Sys2Proof/Laws/Step.lean ====
section
/-! SUPPORT. What a step can do, said once for each function that a step is made of: the run of one instruction, the controller,
an edit by the host. A proof about `step` cites these and does not unfold them. -/

namespace Sys2Proof.Machine

/-- Running one instruction is `exec` of the instruction at PC, with the controller's move after it, or its refusal. -/
theorem executeOne_cases (m : Mode) (s : State) :
    (∃ t, exec s.fetchInstr s = .next t ∧
      executeOne m s = .next { t with ctrl := ctrlAfter t.cfg m s.fetchInstr }) ∨
    (∃ r, exec s.fetchInstr s = .refused r ∧ executeOne m s = .refused r) := by
  unfold executeOne
  cases exec s.fetchInstr s with
  | next t => exact .inl ⟨t, rfl, rfl⟩
  | fault f => cases f
  | refused r => exact .inr ⟨r, rfl, rfl⟩

/-- The controller runs one instruction, takes a pending break, or, outside RUNNING, does nothing. -/
theorem controllerStep_cases (s : State) :
    (∃ m, s.ctrl = .running m ∧ (m = .run → s.breakPending = false) ∧ controllerStep s = executeOne m s) ∨
    (s.ctrl = .running .run ∧ s.breakPending = true ∧
      controllerStep s = .next { s with breakPending := false, ctrl := .paused }) ∨
    ((∀ m, s.ctrl ≠ .running m) ∧ controllerStep s = .next s) := by
  unfold controllerStep
  cases hc : s.ctrl with
  | running m =>
    cases m with
    | run =>
      cases hb : s.breakPending with
      | true => exact .inr (.inl ⟨rfl, rfl, rfl⟩)
      | false => exact .inl ⟨.run, rfl, fun _ => rfl, rfl⟩
    | step => exact .inl ⟨.step, rfl, fun h => (nomatch h), rfl⟩
  | ready => exact .inr (.inr ⟨fun _ h => (nomatch h), rfl⟩)
  | halted => exact .inr (.inr ⟨fun _ h => (nomatch h), rfl⟩)
  | paused => exact .inr (.inr ⟨fun _ h => (nomatch h), rfl⟩)

/-- The host's check whether the controller is RUNNING. -/
theorem notRunning_iff (s : State) : s.notRunning = true ↔ ∀ m, s.ctrl ≠ .running m := by
  unfold State.notRunning
  cases s.ctrl <;> simp

/-- An edit is made outside RUNNING and refused by name in RUNNING. -/
theorem hostEdit_cases (move : HostMove) (edited s : State) :
    ((∀ m, s.ctrl ≠ .running m) ∧ hostEdit move edited s = .next edited) ∨
    ((∃ m, s.ctrl = .running m) ∧ hostEdit move edited s = .refused (.hostMoveNotAllowed move)) := by
  unfold hostEdit
  by_cases h : s.notRunning = true
  · exact .inl ⟨(notRunning_iff s).1 h, if_pos h⟩
  · exact .inr ⟨by simpa [notRunning_iff] using h, if_neg h⟩

/-- With no move of the host, a step is the controller's. -/
theorem step_nil {s : State} (h : s.hostMoves = []) : step s = controllerStep s := by
  simp only [step, machineStep, h]

/-- With a move of the host, a step is that move, and the moves after it are the ones to come. -/
theorem step_cons {s : State} {move : HostMove} {moves : List HostMove} (h : s.hostMoves = move :: moves) :
    step s = hostMove move { s with hostMoves := moves } := by
  simp only [step, machineStep, h]

end Sys2Proof.Machine
end

