-- ==== Sys2Proof/Tests/Slice0.lean ====
section
/-! SUPPORT. The model's own tests. The expected results come from outside the model: the vectors and worked examples of
spec/95_test_vectors.md (each test names its vector), the encoding tables of spec/30_encoding.md, and hand calculation from
a rule that the test names. The witnesses at the end show, for each statement of Certificates/Slice0/Obligations.lean that has
hypotheses, a concrete state and operands that meet them. -/

namespace Sys2Proof.Tests

open Sys2Proof Sys2Proof.Machine

/-! ## Helpers -/

/-- The registers A, B, C, D, E, H, L. -/
def rg (a b c d e h l : Byte) : Regs := { a := a, b := b, c := c, d := d, e := e, h := h, l := l }

/-- The flags Z, S, P, CY, AC, in the order of the vectors' last column. -/
def fl (z s p cy ac : Nat) : Flags := { z := z == 1, s := s == 1, p := p == 1, cy := cy == 1, ac := ac == 1 }

/-- The reset state with these registers, SP, flags and memory bytes. -/
def st (r : Regs) (sp : Word) (f : Flags) (cells : List (Nat × Byte)) : State :=
  { State.reset with regs := r, sp := sp, flags := f, mem := cells.foldl (fun m c => Memory.write m c.1 c.2) [] }

/-- The state with these parameters. -/
def setCfg (cfg : Config) (s : State) : State := { s with cfg := cfg }

/-- The parameters with this policy, the others at their default. -/
def policy (p : UnnamedTierPolicy) : Config := { Config.default with unnamedTierPolicy := p }

/-- The state with these bytes at `pc`, PC there, and the controller RUNNING in run mode. -/
def placedAt (pc : Nat) (bytes : List Byte) (s : State) : State :=
  { s.loadBytes pc bytes with pc := BitVec.ofNat 16 pc, ctrl := .running .run }

/-- The next state of one step, if there is one. -/
def nextOf (s : State) : Option State :=
  match step s with
  | .next t => some t
  | .fault _ => none
  | .refused _ => none

/-- The refusal of one step, if it is refused. -/
def refusalOf (s : State) : Option Refusal :=
  match step s with
  | .next _ => none
  | .fault _ => none
  | .refused r => some r

/-- One step of run mode on these bytes at `pc`. -/
def runAt (pc : Nat) (bytes : List Byte) (s : State) : Option State := nextOf (placedAt pc bytes s)

/-- Registers, SP, PC, flags, events. -/
def view (s : State) : Regs × Word × Word × Flags × List Event := (s.regs, s.sp, s.pc, s.flags, s.events)

/-- The bytes at these addresses. -/
def bytesAt (addresses : List Word) (s : State) : List Byte := addresses.map s.readByte

/-- Whether decoding rejects these bytes. -/
def rejects (bytes : List Byte) (e : DecodeError) : Bool :=
  match decode bytes with
  | .ok _ => false
  | .error d => d == e

/-- Whether decoding these bytes gives this instruction and nothing left over. -/
def reads (bytes : List Byte) (i : Instr) : Bool :=
  match decode bytes with
  | .ok (j, rest) => j == i && rest == []
  | .error _ => false

/-! ## Well-formedness: the check refuses an ill-formed term -/

theorem test_wellFormed_refuses_no_bytes : bytesWellFormed [] = false := by decide

theorem test_wellFormed_refuses_a_missing_operand :
    bytesWellFormed [0x3E] = false ∧ bytesWellFormed [0xC3] = false ∧ bytesWellFormed [0xC3, 0x00] = false := by decide

theorem test_wellFormed_refuses_a_surplus_byte :
    bytesWellFormed [0x76, 0x00] = false ∧ bytesWellFormed [0xFF, 0x3E] = false ∧
    bytesWellFormed [0x3E, 0x01, 0x02] = false ∧ bytesWellFormed [0xCD, 0x00, 0x20, 0x00] = false := by decide

theorem test_wellFormed_accepts_each_length :
    bytesWellFormed [0x76] = true ∧ bytesWellFormed [0x3E, 0x05] = true ∧ bytesWellFormed [0xC3, 0x00, 0x20] = true ∧
    (Instr.cnz 0x2000).wellFormed = true := by decide

/-! ## Decoding: words written out from the encodings of 30_encoding R58 to R63 -/

/-- An error for a list that ends too soon, by name (30_encoding R55, R64). -/
theorem test_decode_rejects_short_lists :
    rejects [] .noOpcode = true ∧ rejects [0x06] (.missingOperand 0x06) = true ∧
    rejects [0x21, 0x50] (.missingOperand 0x21) = true ∧ rejects [0xDB] (.missingOperand 0xDB) = true := by decide

/-- 01 DDD SSS (R57, R58): D = 010, M = 110, A = 111; 01 110 110 is HLT. -/
theorem test_decode_mov :
    reads [0b01_010_111] .movDA = true ∧
    reads [0b01_101_110] .movLM = true ∧
    reads [0b01_110_100] .movMH = true ∧
    reads [0b01_110_110] .hlt = true := by
  decide

/-- 00 DDD 110, 00 RP 0001, and the direct and indirect forms (R59, R63). -/
theorem test_decode_transfers :
    reads [0b00_110_110, 0xA5] (.mviM 0xA5) = true ∧
    reads [0b00_010_001, 0x34, 0x12] (.lxiD 0x1234) = true ∧
    reads [0b00_111_010, 0x50, 0x20] (.lda 0x2050) = true ∧
    reads [0b00_100_010, 0xFF, 0xFF] (.shld 0xFFFF) = true ∧
    reads [0b00_101_010, 0x50, 0x20] (.lhld 0x2050) = true ∧
    reads [0b00_000_010] .staxB = true ∧
    reads [0b11_101_011] .xchg = true := by decide

/-- 10 ALU SSS and 11 ALU 110 (R61): ADD 000 … CMP 111. -/
theorem test_decode_alu :
    reads [0b10_001_110] .adcM = true ∧
    reads [0b10_010_111] .subA = true ∧
    reads [0b10_011_011] .sbbE = true ∧
    reads [0b10_100_101] .anaL = true ∧
    reads [0b10_101_001] .xraC = true ∧
    reads [0b10_110_100] .oraH = true ∧
    reads [0b10_111_010] .cmpD = true ∧
    reads [0b11_001_110, 0x01] (.aci 0x01) = true ∧
    reads [0b11_101_110, 0xFF] (.xri 0xFF) = true := by decide

/-- 00 DDD 100, 00 DDD 101, 00 RP x011, 00 RP 1001, and the column 00 xxx 111. -/
theorem test_decode_counts_and_rotates :
    reads [0b00_110_100] .inrM = true ∧
    reads [0b00_001_101] .dcrC = true ∧
    reads [0b00_110_011] .inxSP = true ∧
    reads [0b00_011_011] .dcxD = true ∧
    reads [0b00_101_001] .dadH = true ∧
    reads [0b00_000_111] .rlc = true ∧
    reads [0b00_100_111] .daa = true ∧
    reads [0b00_111_111] .cmc = true := by decide

/-- 11 CCC 010, 11 CCC 100, 11 CCC 000 (R60): NZ 000 … M 111. -/
theorem test_decode_branches :
    reads [0b11_010_010, 0x0A, 0x00] (.jnc 0x000A) = true ∧
    reads [0b11_111_010, 0x00, 0x20] (.jm 0x2000) = true ∧
    reads [0b11_100_100, 0x00, 0x20] (.cpo 0x2000) = true ∧
    reads [0b11_001_000] .rz = true ∧
    reads [0b11_001_101, 0x10, 0x00] (.call 0x0010) = true ∧
    reads [0b11_001_001] .ret = true ∧
    reads [0b11_101_001] .pchl = true := by decide

/-- The stack, port and control rows, and three unsupported ones. -/
theorem test_decode_stack_ports_control :
    reads [0b11_100_101] .pushH = true ∧
    reads [0b11_110_001] .popPSW = true ∧
    reads [0b11_100_011] .xthl = true ∧
    reads [0b11_111_001] .sphl = true ∧
    reads [0b11_011_011, 0x02] (.inp 0x02) = true ∧
    reads [0b11_010_011, 0xFF] (.outp 0xFF) = true ∧
    reads [0b00_000_000] .nop = true ∧
    reads [0b00_001_000] .undoc08 = true ∧
    reads [0b11_111_011] .ei = true ∧
    reads [0b11_001_011] .undocCB = true := by decide

/-- The host's entry: bit 0 is the least significant bit of the first byte; bits above `nbits` are 0. -/
theorem test_decodeTableWord :
    decodeTableWord 24 0x2050C3 = some (.jmp 0x2050) ∧ decodeTableWord 8 0x3E = some (.mviA 0x00) ∧
    decodeTableWord 8 0xFFFF76 = some .hlt := by decide

/-! Every row of spec/opcode_table.json: its bytes, from the table's "match" and "length" with operand bytes 34 12, and its
instruction. -/

theorem test_decode_rows_00 :
    ([([0x00], .nop), ([0x01, 0x34, 0x12], .lxiB 0x1234), ([0x02], .staxB), ([0x03], .inxB), ([0x04], .inrB),
     ([0x05], .dcrB), ([0x06, 0x34], .mviB 0x34), ([0x07], .rlc), ([0x08], .undoc08), ([0x09], .dadB),
     ([0x0A], .ldaxB), ([0x0B], .dcxB), ([0x0C], .inrC), ([0x0D], .dcrC), ([0x0E, 0x34], .mviC 0x34), ([0x0F], .rrc)] :
      List (List Byte × Instr)).all (fun r => reads r.1 r.2) = true := by decide

theorem test_decode_rows_10 :
    ([([0x10], .undoc10), ([0x11, 0x34, 0x12], .lxiD 0x1234), ([0x12], .staxD), ([0x13], .inxD), ([0x14], .inrD),
     ([0x15], .dcrD), ([0x16, 0x34], .mviD 0x34), ([0x17], .ral), ([0x18], .undoc18), ([0x19], .dadD),
     ([0x1A], .ldaxD), ([0x1B], .dcxD), ([0x1C], .inrE), ([0x1D], .dcrE), ([0x1E, 0x34], .mviE 0x34), ([0x1F], .rar)] :
      List (List Byte × Instr)).all (fun r => reads r.1 r.2) = true := by decide

theorem test_decode_rows_20 :
    ([([0x20], .rim), ([0x21, 0x34, 0x12], .lxiH 0x1234), ([0x22, 0x34, 0x12], .shld 0x1234), ([0x23], .inxH),
     ([0x24], .inrH), ([0x25], .dcrH), ([0x26, 0x34], .mviH 0x34), ([0x27], .daa), ([0x28], .undoc28),
     ([0x29], .dadH), ([0x2A, 0x34, 0x12], .lhld 0x1234), ([0x2B], .dcxH), ([0x2C], .inrL), ([0x2D], .dcrL),
     ([0x2E, 0x34], .mviL 0x34), ([0x2F], .cma)] :
      List (List Byte × Instr)).all (fun r => reads r.1 r.2) = true := by decide

theorem test_decode_rows_30 :
    ([([0x30], .sim), ([0x31, 0x34, 0x12], .lxiSP 0x1234), ([0x32, 0x34, 0x12], .sta 0x1234), ([0x33], .inxSP),
     ([0x34], .inrM), ([0x35], .dcrM), ([0x36, 0x34], .mviM 0x34), ([0x37], .stc), ([0x38], .undoc38),
     ([0x39], .dadSP), ([0x3A, 0x34, 0x12], .lda 0x1234), ([0x3B], .dcxSP), ([0x3C], .inrA), ([0x3D], .dcrA),
     ([0x3E, 0x34], .mviA 0x34), ([0x3F], .cmc)] :
      List (List Byte × Instr)).all (fun r => reads r.1 r.2) = true := by decide

theorem test_decode_rows_40 :
    ([([0x40], .movBB), ([0x41], .movBC), ([0x42], .movBD), ([0x43], .movBE), ([0x44], .movBH), ([0x45], .movBL),
     ([0x46], .movBM), ([0x47], .movBA), ([0x48], .movCB), ([0x49], .movCC), ([0x4A], .movCD), ([0x4B], .movCE),
     ([0x4C], .movCH), ([0x4D], .movCL), ([0x4E], .movCM), ([0x4F], .movCA)] :
      List (List Byte × Instr)).all (fun r => reads r.1 r.2) = true := by decide

theorem test_decode_rows_50 :
    ([([0x50], .movDB), ([0x51], .movDC), ([0x52], .movDD), ([0x53], .movDE), ([0x54], .movDH), ([0x55], .movDL),
     ([0x56], .movDM), ([0x57], .movDA), ([0x58], .movEB), ([0x59], .movEC), ([0x5A], .movED), ([0x5B], .movEE),
     ([0x5C], .movEH), ([0x5D], .movEL), ([0x5E], .movEM), ([0x5F], .movEA)] :
      List (List Byte × Instr)).all (fun r => reads r.1 r.2) = true := by decide

theorem test_decode_rows_60 :
    ([([0x60], .movHB), ([0x61], .movHC), ([0x62], .movHD), ([0x63], .movHE), ([0x64], .movHH), ([0x65], .movHL),
     ([0x66], .movHM), ([0x67], .movHA), ([0x68], .movLB), ([0x69], .movLC), ([0x6A], .movLD), ([0x6B], .movLE),
     ([0x6C], .movLH), ([0x6D], .movLL), ([0x6E], .movLM), ([0x6F], .movLA)] :
      List (List Byte × Instr)).all (fun r => reads r.1 r.2) = true := by decide

theorem test_decode_rows_70 :
    ([([0x70], .movMB), ([0x71], .movMC), ([0x72], .movMD), ([0x73], .movME), ([0x74], .movMH), ([0x75], .movML),
     ([0x76], .hlt), ([0x77], .movMA), ([0x78], .movAB), ([0x79], .movAC), ([0x7A], .movAD), ([0x7B], .movAE),
     ([0x7C], .movAH), ([0x7D], .movAL), ([0x7E], .movAM), ([0x7F], .movAA)] :
      List (List Byte × Instr)).all (fun r => reads r.1 r.2) = true := by decide

theorem test_decode_rows_80 :
    ([([0x80], .addB), ([0x81], .addC), ([0x82], .addD), ([0x83], .addE), ([0x84], .addH), ([0x85], .addL),
     ([0x86], .addM), ([0x87], .addA), ([0x88], .adcB), ([0x89], .adcC), ([0x8A], .adcD), ([0x8B], .adcE),
     ([0x8C], .adcH), ([0x8D], .adcL), ([0x8E], .adcM), ([0x8F], .adcA)] :
      List (List Byte × Instr)).all (fun r => reads r.1 r.2) = true := by decide

theorem test_decode_rows_90 :
    ([([0x90], .subB), ([0x91], .subC), ([0x92], .subD), ([0x93], .subE), ([0x94], .subH), ([0x95], .subL),
     ([0x96], .subM), ([0x97], .subA), ([0x98], .sbbB), ([0x99], .sbbC), ([0x9A], .sbbD), ([0x9B], .sbbE),
     ([0x9C], .sbbH), ([0x9D], .sbbL), ([0x9E], .sbbM), ([0x9F], .sbbA)] :
      List (List Byte × Instr)).all (fun r => reads r.1 r.2) = true := by decide

theorem test_decode_rows_A0 :
    ([([0xA0], .anaB), ([0xA1], .anaC), ([0xA2], .anaD), ([0xA3], .anaE), ([0xA4], .anaH), ([0xA5], .anaL),
     ([0xA6], .anaM), ([0xA7], .anaA), ([0xA8], .xraB), ([0xA9], .xraC), ([0xAA], .xraD), ([0xAB], .xraE),
     ([0xAC], .xraH), ([0xAD], .xraL), ([0xAE], .xraM), ([0xAF], .xraA)] :
      List (List Byte × Instr)).all (fun r => reads r.1 r.2) = true := by decide

theorem test_decode_rows_B0 :
    ([([0xB0], .oraB), ([0xB1], .oraC), ([0xB2], .oraD), ([0xB3], .oraE), ([0xB4], .oraH), ([0xB5], .oraL),
     ([0xB6], .oraM), ([0xB7], .oraA), ([0xB8], .cmpB), ([0xB9], .cmpC), ([0xBA], .cmpD), ([0xBB], .cmpE),
     ([0xBC], .cmpH), ([0xBD], .cmpL), ([0xBE], .cmpM), ([0xBF], .cmpA)] :
      List (List Byte × Instr)).all (fun r => reads r.1 r.2) = true := by decide

theorem test_decode_rows_C0 :
    ([([0xC0], .rnz), ([0xC1], .popB), ([0xC2, 0x34, 0x12], .jnz 0x1234), ([0xC3, 0x34, 0x12], .jmp 0x1234),
     ([0xC4, 0x34, 0x12], .cnz 0x1234), ([0xC5], .pushB), ([0xC6, 0x34], .adi 0x34), ([0xC7], .rst0), ([0xC8], .rz),
     ([0xC9], .ret), ([0xCA, 0x34, 0x12], .jz 0x1234), ([0xCB], .undocCB), ([0xCC, 0x34, 0x12], .cz 0x1234),
     ([0xCD, 0x34, 0x12], .call 0x1234), ([0xCE, 0x34], .aci 0x34), ([0xCF], .rst1)] :
      List (List Byte × Instr)).all (fun r => reads r.1 r.2) = true := by decide

theorem test_decode_rows_D0 :
    ([([0xD0], .rnc), ([0xD1], .popD), ([0xD2, 0x34, 0x12], .jnc 0x1234), ([0xD3, 0x34], .outp 0x34),
     ([0xD4, 0x34, 0x12], .cnc 0x1234), ([0xD5], .pushD), ([0xD6, 0x34], .sui 0x34), ([0xD7], .rst2), ([0xD8], .rc),
     ([0xD9], .undocD9), ([0xDA, 0x34, 0x12], .jc 0x1234), ([0xDB, 0x34], .inp 0x34),
     ([0xDC, 0x34, 0x12], .cc 0x1234), ([0xDD], .undocDD), ([0xDE, 0x34], .sbi 0x34), ([0xDF], .rst3)] :
      List (List Byte × Instr)).all (fun r => reads r.1 r.2) = true := by decide

theorem test_decode_rows_E0 :
    ([([0xE0], .rpo), ([0xE1], .popH), ([0xE2, 0x34, 0x12], .jpo 0x1234), ([0xE3], .xthl),
     ([0xE4, 0x34, 0x12], .cpo 0x1234), ([0xE5], .pushH), ([0xE6, 0x34], .ani 0x34), ([0xE7], .rst4), ([0xE8], .rpe),
     ([0xE9], .pchl), ([0xEA, 0x34, 0x12], .jpe 0x1234), ([0xEB], .xchg), ([0xEC, 0x34, 0x12], .cpe 0x1234),
     ([0xED], .undocED), ([0xEE, 0x34], .xri 0x34), ([0xEF], .rst5)] :
      List (List Byte × Instr)).all (fun r => reads r.1 r.2) = true := by decide

theorem test_decode_rows_F0 :
    ([([0xF0], .rp), ([0xF1], .popPSW), ([0xF2, 0x34, 0x12], .jp 0x1234), ([0xF3], .di),
     ([0xF4, 0x34, 0x12], .cp 0x1234), ([0xF5], .pushPSW), ([0xF6, 0x34], .ori 0x34), ([0xF7], .rst6), ([0xF8], .rm),
     ([0xF9], .sphl), ([0xFA, 0x34, 0x12], .jm 0x1234), ([0xFB], .ei), ([0xFC, 0x34, 0x12], .cm 0x1234),
     ([0xFD], .undocFD), ([0xFE, 0x34], .cpi 0x34), ([0xFF], .rst7)] :
      List (List Byte × Instr)).all (fun r => reads r.1 r.2) = true := by decide

/-! ## One step of the machine on the vectors of spec/95_test_vectors.md -/

/-! ### Data transfer: the vectors of 95_test_vectors -/

/-- V-DT-1 (R80): MOV C,B. -/
theorem test_V_DT_1 :
    (runAt 0x100 [0x48] (st (rg 0 0x12 0 0 0 0 0) 0 (fl 0 0 0 0 0) [])).map view =
      some (rg 0 0x12 0x12 0 0 0 0, 0, 0x101, fl 0 0 0 0 0, []) := by decide

/-- V-DT-2 (R80): MOV A,A. -/
theorem test_V_DT_2 :
    (runAt 0x100 [0x7F] (st (rg 0x5A 0 0 0 0 0 0) 0 (fl 1 0 0 0 0) [])).map view =
      some (rg 0x5A 0 0 0 0 0 0, 0, 0x101, fl 1 0 0 0 0, []) := by decide

/-- V-DT-3 (R81): MOV A,M. -/
theorem test_V_DT_3 :
    (runAt 0x100 [0x7E] (st (rg 0 0 0 0 0 0x20 0) 0 (fl 0 0 0 0 0) [(0x2000, 0x9C)])).map view =
      some (rg 0x9C 0 0 0 0 0x20 0, 0, 0x101, fl 0 0 0 0 0, []) := by decide

/-- V-DT-4 (R81): MOV H,M. -/
theorem test_V_DT_4 :
    (runAt 0x100 [0x66] (st (rg 0 0 0 0 0 0x20 0) 0 (fl 0 0 0 0 0) [(0x2000, 0x30)])).map view =
      some (rg 0 0 0 0 0 0x30 0, 0, 0x101, fl 0 0 0 0 0, []) := by decide

/-- V-DT-6 (R82): MOV M,L. -/
theorem test_V_DT_6 :
    (runAt 0x100 [0x75] (st (rg 0 0 0 0 0 0x20 1) 0 (fl 0 0 0 0 0) [])).map view =
      some (rg 0 0 0 0 0 0x20 1, 0, 0x101, fl 0 0 0 0 0, []) ∧
    (runAt 0x100 [0x75] (st (rg 0 0 0 0 0 0x20 1) 0 (fl 0 0 0 0 0) [])).map (bytesAt [0x2001]) =
      some [0x01] := by decide

/-- V-DT-7 (R83): MVI A,05. -/
theorem test_V_DT_7 :
    (runAt 0x100 [0x3E, 0x05] (st (rg 0 0 0 0 0 0 0) 0 (fl 0 0 0 0 0) [])).map view =
      some (rg 5 0 0 0 0 0 0, 0, 0x102, fl 0 0 0 0 0, []) := by decide

/-- V-DT-8 (R83): MVI L,FF. -/
theorem test_V_DT_8 :
    (runAt 0x100 [0x2E, 0xFF] (st (rg 0 0 0 0 0 0x12 0x34) 0 (fl 0 0 0 0 0) [])).map view =
      some (rg 0 0 0 0 0 0x12 0xFF, 0, 0x102, fl 0 0 0 0 0, []) := by decide

/-- V-DT-9 (R83): MVI B,7E at FFFF (operand wraps to 0000). -/
theorem test_V_DT_9 :
    (runAt 0xFFFF [0x06] (st (rg 0 0 0 0 0 0 0) 0 (fl 0 0 0 0 0) [(0, 0x7E)])).map view =
      some (rg 0 0x7E 0 0 0 0 0, 0, 0x1, fl 0 0 0 0 0, []) := by decide

/-- V-DT-11 (R85): LXI H,2050. -/
theorem test_V_DT_11 :
    (runAt 0x100 [0x21, 0x50, 0x20] (st (rg 0 0 0 0 0 0 0) 0 (fl 0 0 0 0 0) [])).map view =
      some (rg 0 0 0 0 0 0x20 0x50, 0, 0x103, fl 0 0 0 0 0, []) := by decide

/-- V-DT-12 (R85): LXI SP,0000. -/
theorem test_V_DT_12 :
    (runAt 0x100 [0x31, 0x00, 0x00] (st (rg 0 0 0 0 0 0 0) 0x4000 (fl 0 0 0 0 0) [])).map view =
      some (rg 0 0 0 0 0 0 0, 0, 0x103, fl 0 0 0 0 0, []) := by decide

/-- V-DT-14 (R86): LDA 2050. -/
theorem test_V_DT_14 :
    (runAt 0x100 [0x3A, 0x50, 0x20] (st (rg 0 0 0 0 0 0 0) 0 (fl 0 0 0 0 0) [(0x2050, 0x44)])).map view =
      some (rg 0x44 0 0 0 0 0 0, 0, 0x103, fl 0 0 0 0 0, []) := by decide

/-- V-DT-15 (R87): STA 2050. -/
theorem test_V_DT_15 :
    (runAt 0x100 [0x32, 0x50, 0x20] (st (rg 0x77 0 0 0 0 0 0) 0 (fl 0 0 0 0 0) [])).map view =
      some (rg 0x77 0 0 0 0 0 0, 0, 0x103, fl 0 0 0 0 0, [.persistHint 0x2050]) ∧
    (runAt 0x100 [0x32, 0x50, 0x20] (st (rg 0x77 0 0 0 0 0 0) 0 (fl 0 0 0 0 0) [])).map (bytesAt [0x2050]) =
      some [0x77] := by decide

/-- V-DT-16 (R87): STA 0102 (own operand byte). -/
theorem test_V_DT_16 :
    (runAt 0x100 [0x32, 0x02, 0x01] (st (rg 0x99 0 0 0 0 0 0) 0 (fl 0 0 0 0 0) [])).map view =
      some (rg 0x99 0 0 0 0 0 0, 0, 0x103, fl 0 0 0 0 0, [.persistHint 0x0102]) ∧
    (runAt 0x100 [0x32, 0x02, 0x01] (st (rg 0x99 0 0 0 0 0 0) 0 (fl 0 0 0 0 0) [])).map (bytesAt [0x102]) =
      some [0x99] := by decide

/-- V-DT-17 (R88): LDAX B. -/
theorem test_V_DT_17 :
    (runAt 0x100 [0x0A] (st (rg 0 0x21 0 0 0 0 0) 0 (fl 0 0 0 0 0) [(0x2100, 0xF)])).map view =
      some (rg 0xF 0x21 0 0 0 0 0, 0, 0x101, fl 0 0 0 0 0, []) := by decide

/-- V-DT-18 (R88): LDAX D. -/
theorem test_V_DT_18 :
    (runAt 0x100 [0x1A] (st (rg 0 0 0 0xFF 0xFF 0 0) 0 (fl 0 0 0 0 0) [(0xFFFF, 0x80)])).map view =
      some (rg 0x80 0 0 0xFF 0xFF 0 0, 0, 0x101, fl 0 0 0 0 0, []) := by decide

/-- V-DT-19 (R89): STAX B. -/
theorem test_V_DT_19 :
    (runAt 0x100 [0x02] (st (rg 0x33 0x22 0 0 0 0 0) 0 (fl 0 0 0 0 0) [])).map view =
      some (rg 0x33 0x22 0 0 0 0 0, 0, 0x101, fl 0 0 0 0 0, []) ∧
    (runAt 0x100 [0x02] (st (rg 0x33 0x22 0 0 0 0 0) 0 (fl 0 0 0 0 0) [])).map (bytesAt [0x2200]) =
      some [0x33] := by decide

/-- V-DT-21 (R90): LHLD 2050. -/
theorem test_V_DT_21 :
    (runAt 0x100 [0x2A, 0x50, 0x20]
        (st (rg 0 0 0 0 0 0 0) 0 (fl 0 0 0 0 0) [(0x2050, 0x34), (0x2051, 0x12)])).map view =
      some (rg 0 0 0 0 0 0x12 0x34, 0, 0x103, fl 0 0 0 0 0, []) := by decide

/-- V-DT-22 (R90): LHLD FFFF (wraps). -/
theorem test_V_DT_22 :
    (runAt 0x100 [0x2A, 0xFF, 0xFF] (st (rg 0 0 0 0 0 0 0) 0 (fl 0 0 0 0 0) [(0, 0xAB), (0xFFFF, 0xCD)])).map view =
      some (rg 0 0 0 0 0 0xAB 0xCD, 0, 0x103, fl 0 0 0 0 0, []) := by decide

/-- V-DT-23 (R91): SHLD 3000. -/
theorem test_V_DT_23 :
    (runAt 0x100 [0x22, 0x00, 0x30] (st (rg 0 0 0 0 0 0xAB 0xCD) 0 (fl 0 0 0 0 0) [])).map view =
      some (rg 0 0 0 0 0 0xAB 0xCD, 0, 0x103, fl 0 0 0 0 0, []) ∧
    (runAt 0x100 [0x22, 0x00, 0x30] (st (rg 0 0 0 0 0 0xAB 0xCD) 0 (fl 0 0 0 0 0) [])).map (bytesAt [0x3000, 0x3001]) =
      some [0xCD, 0xAB] := by decide

/-- V-DT-24 (R91): SHLD FFFF (wraps). -/
theorem test_V_DT_24 :
    (runAt 0x100 [0x22, 0xFF, 0xFF] (st (rg 0 0 0 0 0 0x12 0x34) 0 (fl 0 0 0 0 0) [])).map view =
      some (rg 0 0 0 0 0 0x12 0x34, 0, 0x103, fl 0 0 0 0 0, []) ∧
    (runAt 0x100 [0x22, 0xFF, 0xFF] (st (rg 0 0 0 0 0 0x12 0x34) 0 (fl 0 0 0 0 0) [])).map (bytesAt [0, 0xFFFF]) =
      some [0x12, 0x34] := by decide

/-- V-DT-25 (R92): XCHG. -/
theorem test_V_DT_25 :
    (runAt 0x100 [0xEB] (st (rg 0 0 0 0x11 0x11 0x22 0x22) 0 (fl 0 0 0 0 0) [])).map view =
      some (rg 0 0 0 0x22 0x22 0x11 0x11, 0, 0x101, fl 0 0 0 0 0, []) := by decide

/-! ### Arithmetic: the vectors of 95_test_vectors -/

/-- V-AR-2 (R95): ADD B (carry out, zero). -/
theorem test_V_AR_2 :
    (runAt 0x100 [0x80] (st (rg 0x80 0x80 0 0 0 0 0) 0 (fl 0 0 0 0 0) [])).map view =
      some (rg 0 0x80 0 0 0 0 0, 0, 0x101, fl 1 0 1 1 0, []) := by decide

/-- V-AR-3 (R95): ADD C (nibble carry). -/
theorem test_V_AR_3 :
    (runAt 0x100 [0x81] (st (rg 0xF 0 1 0 0 0 0) 0 (fl 0 0 0 0 0) [])).map view =
      some (rg 0x10 0 1 0 0 0 0, 0, 0x101, fl 0 0 0 0 1, []) := by decide

/-- V-AR-4 (R95): ADD A. -/
theorem test_V_AR_4 :
    (runAt 0x100 [0x87] (st (rg 0xC1 0 0 0 0 0 0) 0 (fl 0 0 0 0 0) [])).map view =
      some (rg 0x82 0 0 0 0 0 0, 0, 0x101, fl 0 1 1 1 0, []) := by decide

/-- V-AR-5 (R95): ADD M. -/
theorem test_V_AR_5 :
    (runAt 0x100 [0x86] (st (rg 0x7F 0 0 0 0 0x20 0) 0 (fl 0 0 0 0 0) [(0x2000, 1)])).map view =
      some (rg 0x80 0 0 0 0 0x20 0, 0, 0x101, fl 0 1 0 0 1, []) := by decide

/-- V-AR-6 (R96): ADC C. -/
theorem test_V_AR_6 :
    (runAt 0x100 [0x89] (st (rg 0x3C 0 0xF 0 0 0 0) 0 (fl 0 0 0 1 0) [])).map view =
      some (rg 0x4C 0 0xF 0 0 0 0, 0, 0x101, fl 0 0 0 0 1, []) := by decide

/-- V-AR-7 (R96): ADC B (FF+00+1). -/
theorem test_V_AR_7 :
    (runAt 0x100 [0x88] (st (rg 0xFF 0 0 0 0 0 0) 0 (fl 0 0 0 1 0) [])).map view =
      some (rg 0 0 0 0 0 0 0, 0, 0x101, fl 1 0 1 1 1, []) := by decide

/-- V-AR-9 (R97): SUB B. -/
theorem test_V_AR_9 :
    (runAt 0x100 [0x90] (st (rg 5 5 0 0 0 0 0) 0 (fl 0 0 0 0 0) [])).map view =
      some (rg 0 5 0 0 0 0 0, 0, 0x101, fl 1 0 1 0 0, []) := by decide

/-- V-AR-10 (R97): SUB B (borrow). -/
theorem test_V_AR_10 :
    (runAt 0x100 [0x90] (st (rg 0 1 0 0 0 0 0) 0 (fl 0 0 0 0 0) [])).map view =
      some (rg 0xFF 1 0 0 0 0 0, 0, 0x101, fl 0 1 1 1 1, []) := by decide

/-- V-AR-11 (R97): SUB A. -/
theorem test_V_AR_11 :
    (runAt 0x100 [0x97] (st (rg 0x3E 0 0 0 0 0 0) 0 (fl 0 0 0 1 0) [])).map view =
      some (rg 0 0 0 0 0 0 0, 0, 0x101, fl 1 0 1 0 0, []) := by decide

/-- V-AR-12 (R97): SUB A, subAuxCarry=carry8080. -/
theorem test_V_AR_12 :
    (runAt 0x100 [0x97]
        (setCfg { Config.default with subAuxCarry := .carry8080 } (st (rg 0x3E 0 0 0 0 0 0) 0 (fl 0 0 0 0 0) []))).map view =
      some (rg 0 0 0 0 0 0 0, 0, 0x101, fl 1 0 1 0 1, []) := by decide

/-- V-AR-13 (R97): SUB M. -/
theorem test_V_AR_13 :
    (runAt 0x100 [0x96] (st (rg 0x50 0 0 0 0 0x20 0) 0 (fl 0 0 0 0 0) [(0x2000, 0x21)])).map view =
      some (rg 0x2F 0 0 0 0 0x20 0, 0, 0x101, fl 0 0 0 0 1, []) := by decide

/-- V-AR-14 (R98): SBB D. -/
theorem test_V_AR_14 :
    (runAt 0x100 [0x9A] (st (rg 0x10 0 0 1 0 0 0) 0 (fl 0 0 0 1 0) [])).map view =
      some (rg 0xE 0 0 1 0 0 0, 0, 0x101, fl 0 0 0 0 1, []) := by decide

/-- V-AR-15 (R98): SBB E (00-FF-1). -/
theorem test_V_AR_15 :
    (runAt 0x100 [0x9B] (st (rg 0 0 0 0 0xFF 0 0) 0 (fl 0 0 0 1 0) [])).map view =
      some (rg 0 0 0 0 0xFF 0 0, 0, 0x101, fl 1 0 1 1 1, []) := by decide

/-- V-AR-16 (R98): SBB A (CY=1). -/
theorem test_V_AR_16 :
    (runAt 0x100 [0x9F] (st (rg 0x55 0 0 0 0 0 0) 0 (fl 0 0 0 1 0) [])).map view =
      some (rg 0xFF 0 0 0 0 0 0, 0, 0x101, fl 0 1 1 1 1, []) := by decide

/-- V-AR-18 (R99): ADI 01 (to 80). -/
theorem test_V_AR_18 :
    (runAt 0x100 [0xC6, 0x01] (st (rg 0x7F 0 0 0 0 0 0) 0 (fl 0 0 0 0 0) [])).map view =
      some (rg 0x80 0 0 0 0 0 0, 0, 0x102, fl 0 1 0 0 1, []) := by decide

/-- V-AR-19 (R100): ACI 01. -/
theorem test_V_AR_19 :
    (runAt 0x100 [0xCE, 0x01] (st (rg 1 0 0 0 0 0 0) 0 (fl 0 0 0 1 0) [])).map view =
      some (rg 3 0 0 0 0 0 0, 0, 0x102, fl 0 0 1 0 0, []) := by decide

/-- V-AR-20 (R101): SUI 01. -/
theorem test_V_AR_20 :
    (runAt 0x100 [0xD6, 0x01] (st (rg 0x20 0 0 0 0 0 0) 0 (fl 0 0 0 0 0) [])).map view =
      some (rg 0x1F 0 0 0 0 0 0, 0, 0x102, fl 0 0 0 0 1, []) := by decide

/-- V-AR-22 (R102): SBI 00. -/
theorem test_V_AR_22 :
    (runAt 0x100 [0xDE, 0x00] (st (rg 0 0 0 0 0 0 0) 0 (fl 0 0 0 1 0) [])).map view =
      some (rg 0xFF 0 0 0 0 0 0, 0, 0x102, fl 0 1 1 1 1, []) := by decide

/-- V-AR-23 (R103): INR B. -/
theorem test_V_AR_23 :
    (runAt 0x100 [0x04] (st (rg 0 0xF 0 0 0 0 0) 0 (fl 0 0 0 0 0) [])).map view =
      some (rg 0 0x10 0 0 0 0 0, 0, 0x101, fl 0 0 0 0 1, []) := by decide

/-- V-AR-24 (R103): INR A (FF, CY kept). -/
theorem test_V_AR_24 :
    (runAt 0x100 [0x3C] (st (rg 0xFF 0 0 0 0 0 0) 0 (fl 0 0 0 0 0) [])).map view =
      some (rg 0 0 0 0 0 0 0, 0, 0x101, fl 1 0 1 0 1, []) := by decide

/-- V-AR-25 (R103): INR A (FF), incDecWritesCarry=true. -/
theorem test_V_AR_25 :
    (runAt 0x100 [0x3C]
        (setCfg { Config.default with incDecWritesCarry := true } (st (rg 0xFF 0 0 0 0 0 0) 0 (fl 0 0 0 0 0) []))).map view =
      some (rg 0 0 0 0 0 0 0, 0, 0x101, fl 1 0 1 1 1, []) := by decide

/-- V-AR-26 (R103): INR L (7F). -/
theorem test_V_AR_26 :
    (runAt 0x100 [0x2C] (st (rg 0 0 0 0 0 0 0x7F) 0 (fl 0 0 0 1 0) [])).map view =
      some (rg 0 0 0 0 0 0 0x80, 0, 0x101, fl 0 1 0 1 1, []) := by decide

/-- V-AR-27 (R103): INR M. -/
theorem test_V_AR_27 :
    (runAt 0x100 [0x34] (st (rg 0 0 0 0 0 0x20 0) 0 (fl 0 0 0 0 0) [(0x2000, 0x41)])).map view =
      some (rg 0 0 0 0 0 0x20 0, 0, 0x101, fl 0 0 1 0 0, []) ∧
    (runAt 0x100 [0x34] (st (rg 0 0 0 0 0 0x20 0) 0 (fl 0 0 0 0 0) [(0x2000, 0x41)])).map (bytesAt [0x2000]) =
      some [0x42] := by decide

/-- V-AR-28 (R104): DCR C. -/
theorem test_V_AR_28 :
    (runAt 0x100 [0x0D] (st (rg 0 0 0x10 0 0 0 0) 0 (fl 0 0 0 0 0) [])).map view =
      some (rg 0 0 0xF 0 0 0 0, 0, 0x101, fl 0 0 1 0 1, []) := by decide

/-- V-AR-29 (R104): DCR B (00). -/
theorem test_V_AR_29 :
    (runAt 0x100 [0x05] (st (rg 0 0 0 0 0 0 0) 0 (fl 0 0 0 1 0) [])).map view =
      some (rg 0 0xFF 0 0 0 0 0, 0, 0x101, fl 0 1 1 1 1, []) := by decide

/-- V-AR-31 (R104): DCR B (01), subAuxCarry=carry8080. -/
theorem test_V_AR_31 :
    (runAt 0x100 [0x05]
        (setCfg { Config.default with subAuxCarry := .carry8080 } (st (rg 0 1 0 0 0 0 0) 0 (fl 0 0 0 0 0) []))).map view =
      some (rg 0 0 0 0 0 0 0, 0, 0x101, fl 1 0 1 0 1, []) := by decide

/-- V-AR-32 (R104): DCR M. -/
theorem test_V_AR_32 :
    (runAt 0x100 [0x35] (st (rg 0 0 0 0 0 0x20 0) 0 (fl 0 0 0 0 0) [(0x2000, 0)])).map view =
      some (rg 0 0 0 0 0 0x20 0, 0, 0x101, fl 0 1 1 0 1, []) ∧
    (runAt 0x100 [0x35] (st (rg 0 0 0 0 0 0x20 0) 0 (fl 0 0 0 0 0) [(0x2000, 0)])).map (bytesAt [0x2000]) =
      some [0xFF] := by decide

/-- V-AR-34 (R105): INX SP (FFFF). -/
theorem test_V_AR_34 :
    (runAt 0x100 [0x33] (st (rg 0 0 0 0 0 0 0) 0xFFFF (fl 0 0 0 0 0) [])).map view =
      some (rg 0 0 0 0 0 0 0, 0, 0x101, fl 0 0 0 0 0, []) := by decide

/-- V-AR-35 (R105): INX B (C=FF). -/
theorem test_V_AR_35 :
    (runAt 0x100 [0x03] (st (rg 0 0 0xFF 0 0 0 0) 0 (fl 0 0 0 0 0) [])).map view =
      some (rg 0 1 0 0 0 0 0, 0, 0x101, fl 0 0 0 0 0, []) := by decide

/-- V-AR-37 (R106): DCX B (0000). -/
theorem test_V_AR_37 :
    (runAt 0x100 [0x0B] (st (rg 0 0 0 0 0 0 0) 0 (fl 0 0 0 0 0) [])).map view =
      some (rg 0 0xFF 0xFF 0 0 0 0, 0, 0x101, fl 0 0 0 0 0, []) := by decide

/-- V-AR-38 (R107): DAD D. -/
theorem test_V_AR_38 :
    (runAt 0x100 [0x19] (st (rg 0 0 0 0x80 1 0x80 0) 0 (fl 0 0 0 0 0) [])).map view =
      some (rg 0 0 0 0x80 1 0 1, 0, 0x101, fl 0 0 0 1 0, []) := by decide

/-- V-AR-39 (R107): DAD B (no carry, Z kept). -/
theorem test_V_AR_39 :
    (runAt 0x100 [0x09] (st (rg 0 0x11 0x11 0 0 0x12 0x34) 0 (fl 1 0 0 1 0) [])).map view =
      some (rg 0 0x11 0x11 0 0 0x23 0x45, 0, 0x101, fl 1 0 0 0 0, []) := by decide

/-- V-AR-40 (R107): DAD H. -/
theorem test_V_AR_40 :
    (runAt 0x100 [0x29] (st (rg 0 0 0 0 0 0x84 0x21) 0 (fl 0 0 0 0 0) [])).map view =
      some (rg 0 0 0 0 0 8 0x42, 0, 0x101, fl 0 0 0 1 0, []) := by decide

/-- V-AR-41 (R107): DAD SP. -/
theorem test_V_AR_41 :
    (runAt 0x100 [0x39] (st (rg 0 0 0 0 0 0 1) 0xFFFF (fl 0 0 0 0 0) [])).map view =
      some (rg 0 0 0 0 0 0 0, 0xFFFF, 0x101, fl 0 0 0 1 0, []) := by decide

/-- V-AR-42 (R108): DAA (after 15+27). -/
theorem test_V_AR_42 :
    (runAt 0x100 [0x27] (st (rg 0x3C 0 0 0 0 0 0) 0 (fl 0 0 0 0 0) [])).map view =
      some (rg 0x42 0 0 0 0 0 0, 0, 0x101, fl 0 0 1 0 1, []) := by decide

/-- V-AR-43 (R108): DAA (9A). -/
theorem test_V_AR_43 :
    (runAt 0x100 [0x27] (st (rg 0x9A 0 0 0 0 0 0) 0 (fl 0 0 0 0 0) [])).map view =
      some (rg 0 0 0 0 0 0 0, 0, 0x101, fl 1 0 1 1 1, []) := by decide

/-- V-AR-44 (R108): DAA (AC set, 38+29=61). -/
theorem test_V_AR_44 :
    (runAt 0x100 [0x27] (st (rg 0x61 0 0 0 0 0 0) 0 (fl 0 0 0 0 1) [])).map view =
      some (rg 0x67 0 0 0 0 0 0, 0, 0x101, fl 0 0 0 0 0, []) := by decide

/-- V-AR-45 (R108): DAA (CY set, 99+99=132). -/
theorem test_V_AR_45 :
    (runAt 0x100 [0x27] (st (rg 0x32 0 0 0 0 0 0) 0 (fl 0 0 0 1 1) [])).map view =
      some (rg 0x98 0 0 0 0 0 0, 0, 0x101, fl 0 1 0 1 0, []) := by decide

/-- V-AR-46 (R108): DAA (already BCD). -/
theorem test_V_AR_46 :
    (runAt 0x100 [0x27] (st (rg 0x42 0 0 0 0 0 0) 0 (fl 0 0 0 0 0) [])).map view =
      some (rg 0x42 0 0 0 0 0 0, 0, 0x101, fl 0 0 1 0 0, []) := by decide

/-! ### Logic, compare, rotate: the vectors of 95_test_vectors -/

/-- V-LG-1 (R109): ANA B. -/
theorem test_V_LG_1 :
    (runAt 0x100 [0xA0] (st (rg 0xF0 0x3C 0 0 0 0 0) 0 (fl 0 0 0 1 0) [])).map view =
      some (rg 0x30 0x3C 0 0 0 0 0, 0, 0x101, fl 0 0 1 0 1, []) := by decide

/-- V-LG-4 (R110): ANI 0F. -/
theorem test_V_LG_4 :
    (runAt 0x100 [0xE6, 0x0F] (st (rg 0x3A 0 0 0 0 0 0) 0 (fl 0 0 0 1 0) [])).map view =
      some (rg 0xA 0 0 0 0 0 0, 0, 0x102, fl 0 0 1 0 1, []) := by decide

/-- V-LG-5 (R111): XRA A. -/
theorem test_V_LG_5 :
    (runAt 0x100 [0xAF] (st (rg 0x5A 0 0 0 0 0 0) 0 (fl 0 0 0 1 1) [])).map view =
      some (rg 0 0 0 0 0 0 0, 0, 0x101, fl 1 0 1 0 0, []) := by decide

/-- V-LG-7 (R112): XRI FF. -/
theorem test_V_LG_7 :
    (runAt 0x100 [0xEE, 0xFF] (st (rg 0x55 0 0 0 0 0 0) 0 (fl 0 0 0 0 0) [])).map view =
      some (rg 0xAA 0 0 0 0 0 0, 0, 0x102, fl 0 1 1 0 0, []) := by decide

/-- V-LG-8 (R113): ORA C. -/
theorem test_V_LG_8 :
    (runAt 0x100 [0xB1] (st (rg 0xF 0 0xF0 0 0 0 0) 0 (fl 0 0 0 0 0) [])).map view =
      some (rg 0xFF 0 0xF0 0 0 0 0, 0, 0x101, fl 0 1 1 0 0, []) := by decide

/-- V-LG-10 (R114): ORI 80. -/
theorem test_V_LG_10 :
    (runAt 0x100 [0xF6, 0x80] (st (rg 1 0 0 0 0 0 0) 0 (fl 0 0 0 0 0) [])).map view =
      some (rg 0x81 0 0 0 0 0 0, 0, 0x102, fl 0 1 1 0 0, []) := by decide

/-- V-LG-11 (R115): CMP B (equal). -/
theorem test_V_LG_11 :
    (runAt 0x100 [0xB8] (st (rg 0x40 0x40 0 0 0 0 0) 0 (fl 0 0 0 0 0) [])).map view =
      some (rg 0x40 0x40 0 0 0 0 0, 0, 0x101, fl 1 0 1 0 0, []) := by decide

/-- V-LG-12 (R115): CMP B (A<B). -/
theorem test_V_LG_12 :
    (runAt 0x100 [0xB8] (st (rg 0x10 0x20 0 0 0 0 0) 0 (fl 0 0 0 0 0) [])).map view =
      some (rg 0x10 0x20 0 0 0 0 0, 0, 0x101, fl 0 1 1 1 0, []) := by decide

/-- V-LG-14 (R115): CMP M (result bit 7 set, bit 3 clear). -/
theorem test_V_LG_14 :
    (runAt 0x100 [0xBE] (st (rg 0 0 0 0 0 0x20 0) 0 (fl 0 0 0 0 0) [(0x2000, 0x70)])).map view =
      some (rg 0 0 0 0 0 0x20 0, 0, 0x101, fl 0 1 1 1 0, []) := by decide

/-- V-LG-16 (R116): CPI 01 (A=00). -/
theorem test_V_LG_16 :
    (runAt 0x100 [0xFE, 0x01] (st (rg 0 0 0 0 0 0 0) 0 (fl 0 0 0 0 0) [])).map view =
      some (rg 0 0 0 0 0 0 0, 0, 0x102, fl 0 1 1 1 1, []) := by decide

/-- V-LG-17 (R117): RLC. -/
theorem test_V_LG_17 :
    (runAt 0x100 [0x07] (st (rg 0x85 0 0 0 0 0 0) 0 (fl 0 0 0 0 0) [])).map view =
      some (rg 0xB 0 0 0 0 0 0, 0, 0x101, fl 0 0 0 1 0, []) := by decide

/-- V-LG-18 (R117): RLC (00, Z kept). -/
theorem test_V_LG_18 :
    (runAt 0x100 [0x07] (st (rg 0 0 0 0 0 0 0) 0 (fl 0 0 0 1 0) [])).map view =
      some (rg 0 0 0 0 0 0 0, 0, 0x101, fl 0 0 0 0 0, []) := by decide

/-- V-LG-19 (R118): RRC. -/
theorem test_V_LG_19 :
    (runAt 0x100 [0x0F] (st (rg 1 0 0 0 0 0 0) 0 (fl 0 0 0 0 0) [])).map view =
      some (rg 0x80 0 0 0 0 0 0, 0, 0x101, fl 0 0 0 1 0, []) := by decide

/-- V-LG-21 (R119): RAL. -/
theorem test_V_LG_21 :
    (runAt 0x100 [0x17] (st (rg 0x85 0 0 0 0 0 0) 0 (fl 0 0 0 0 0) [])).map view =
      some (rg 0xA 0 0 0 0 0 0, 0, 0x101, fl 0 0 0 1 0, []) := by decide

/-- V-LG-23 (R119): RAL (00, CY=1). -/
theorem test_V_LG_23 :
    (runAt 0x100 [0x17] (st (rg 0 0 0 0 0 0 0) 0 (fl 0 0 0 1 0) [])).map view =
      some (rg 1 0 0 0 0 0 0, 0, 0x101, fl 0 0 0 0 0, []) := by decide

/-- V-LG-24 (R120): RAR. -/
theorem test_V_LG_24 :
    (runAt 0x100 [0x1F] (st (rg 2 0 0 0 0 0 0) 0 (fl 0 0 0 1 0) [])).map view =
      some (rg 0x81 0 0 0 0 0 0, 0, 0x101, fl 0 0 0 0 0, []) := by decide

/-- V-LG-26 (R121): CMA. -/
theorem test_V_LG_26 :
    (runAt 0x100 [0x2F] (st (rg 0x51 0 0 0 0 0 0) 0 (fl 1 0 0 0 0) [])).map view =
      some (rg 0xAE 0 0 0 0 0 0, 0, 0x101, fl 1 0 0 0 0, []) := by decide

/-- V-LG-27 (R122): CMC. -/
theorem test_V_LG_27 :
    (runAt 0x100 [0x3F] (st (rg 0 0 0 0 0 0 0) 0 (fl 0 0 0 1 0) [])).map view =
      some (rg 0 0 0 0 0 0 0, 0, 0x101, fl 0 0 0 0 0, []) := by decide

/-- V-LG-29 (R123): STC. -/
theorem test_V_LG_29 :
    (runAt 0x100 [0x37] (st (rg 0 0 0 0 0 0 0) 0 (fl 0 0 0 0 0) [])).map view =
      some (rg 0 0 0 0 0 0 0, 0, 0x101, fl 0 0 0 1 0, []) := by decide

/-! ### Branch, call, return: the vectors of 95_test_vectors -/

/-- V-BR-1 (R124): JMP 2000. -/
theorem test_V_BR_1 :
    (runAt 0x100 [0xC3, 0x00, 0x20] (st (rg 0 0 0 0 0 0 0) 0 (fl 0 0 0 0 0) [])).map view =
      some (rg 0 0 0 0 0 0 0, 0, 0x2000, fl 0 0 0 0 0, []) := by decide

/-- V-BR-20 (R124): JMP 1234 at FFFE (operand bytes wrap). -/
theorem test_V_BR_20 :
    (runAt 0xFFFE [0xC3, 0x34] (st (rg 0 0 0 0 0 0 0) 0 (fl 0 0 0 0 0) [(0, 0x12)])).map view =
      some (rg 0 0 0 0 0 0 0, 0, 0x1234, fl 0 0 0 0 0, []) := by decide

/-- V-BR-21 (R133): PCHL. -/
theorem test_V_BR_21 :
    (runAt 0x100 [0xE9] (st (rg 0 0 0 0 0 0x20 0x40) 0 (fl 0 0 0 0 0) [])).map view =
      some (rg 0 0 0 0 0 0x20 0x40, 0, 0x2040, fl 0 0 0 0 0, []) := by decide

/-- V-BR-22 (R134): CALL 2000. -/
theorem test_V_BR_22 :
    (runAt 0x100 [0xCD, 0x00, 0x20] (st (rg 0 0 0 0 0 0 0) 0x3000 (fl 0 0 0 0 0) [])).map view =
      some (rg 0 0 0 0 0 0 0, 0x2FFE, 0x2000, fl 0 0 0 0 0, []) ∧
    (runAt 0x100 [0xCD, 0x00, 0x20] (st (rg 0 0 0 0 0 0 0) 0x3000 (fl 0 0 0 0 0) [])).map (bytesAt [0x2FFE, 0x2FFF]) =
      some [0x03, 0x01] := by decide

/-- V-BR-23 (R134): CALL 2000 (SP=0000). -/
theorem test_V_BR_23 :
    (runAt 0x100 [0xCD, 0x00, 0x20] (st (rg 0 0 0 0 0 0 0) 0 (fl 0 0 0 0 0) [])).map view =
      some (rg 0 0 0 0 0 0 0, 0xFFFE, 0x2000, fl 0 0 0 0 0, []) ∧
    (runAt 0x100 [0xCD, 0x00, 0x20] (st (rg 0 0 0 0 0 0 0) 0 (fl 0 0 0 0 0) [])).map (bytesAt [0xFFFE, 0xFFFF]) =
      some [0x03, 0x01] := by decide

/-- V-BR-40 (R143): RET. -/
theorem test_V_BR_40 :
    (runAt 0x100 [0xC9] (st (rg 0 0 0 0 0 0 0) 0x2FFE (fl 0 0 0 0 0) [(0x2FFE, 3), (0x2FFF, 1)])).map view =
      some (rg 0 0 0 0 0 0 0, 0x3000, 0x103, fl 0 0 0 0 0, []) := by decide

/-- V-BR-41 (R143): RET (SP=FFFF, wraps) at 0200. -/
theorem test_V_BR_41 :
    (runAt 0x200 [0xC9] (st (rg 0 0 0 0 0 0 0) 0xFFFF (fl 0 0 0 0 0) [(0, 0x12), (0xFFFF, 0x34)])).map view =
      some (rg 0 0 0 0 0 0 0, 1, 0x1234, fl 0 0 0 0 0, []) := by decide

/-- V-BR-3 to V-BR-17 (R125 to R132): the eight conditional jumps, taken. -/
theorem test_V_BR_jumps_taken :
    ([([0xC2, 0x00, 0x20], fl 0 0 0 0 0, 0, 0x2000),
     ([0xCA, 0x00, 0x20], fl 1 0 0 0 0, 0, 0x2000),
     ([0xD2, 0x00, 0x20], fl 0 0 0 0 0, 0, 0x2000),
     ([0xDA, 0x00, 0x20], fl 0 0 0 1 0, 0, 0x2000),
     ([0xE2, 0x00, 0x20], fl 0 0 0 0 0, 0, 0x2000),
     ([0xEA, 0x00, 0x20], fl 0 0 1 0 0, 0, 0x2000),
     ([0xF2, 0x00, 0x20], fl 0 0 0 0 0, 0, 0x2000),
     ([0xFA, 0x00, 0x20], fl 0 1 0 0 0, 0, 0x2000)] : List (List Byte × Flags × Word × Word)).all (fun row =>
      (runAt 0x100 row.1 (st (rg 0 0 0 0 0 0 0) 0 row.2.1 [])).map view ==
        some (rg 0 0 0 0 0 0 0, row.2.2.1, row.2.2.2, row.2.1, [])) = true := by decide

/-- V-BR-4 to V-BR-18, and V-BR-19: the eight conditional jumps, not taken. -/
theorem test_V_BR_jumps_not_taken :
    ([([0xC2, 0x00, 0x20], fl 1 0 0 0 0, 0, 0x103),
     ([0xCA, 0x00, 0x20], fl 0 0 0 0 0, 0, 0x103),
     ([0xD2, 0x00, 0x20], fl 0 0 0 1 0, 0, 0x103),
     ([0xDA, 0x00, 0x20], fl 0 0 0 0 0, 0, 0x103),
     ([0xE2, 0x00, 0x20], fl 0 0 1 0 0, 0, 0x103),
     ([0xEA, 0x00, 0x20], fl 0 0 0 0 0, 0, 0x103),
     ([0xF2, 0x00, 0x20], fl 0 1 0 0 0, 0, 0x103),
     ([0xFA, 0x00, 0x20], fl 0 0 0 0 0, 0, 0x103),
     ([0xC2, 0x03, 0x01], fl 1 0 0 0 0, 0, 0x103)] : List (List Byte × Flags × Word × Word)).all (fun row =>
      (runAt 0x100 row.1 (st (rg 0 0 0 0 0 0 0) 0 row.2.1 [])).map view ==
        some (rg 0 0 0 0 0 0 0, row.2.2.1, row.2.2.2, row.2.1, [])) = true := by decide

/-- V-BR-24 to V-BR-38 (R135 to R142): the eight conditional calls, taken. -/
theorem test_V_BR_calls_taken :
    ([([0xC4, 0x00, 0x20], fl 0 0 0 0 0, 0x2FFE, 0x2000),
     ([0xCC, 0x00, 0x20], fl 1 0 0 0 0, 0x2FFE, 0x2000),
     ([0xD4, 0x00, 0x20], fl 0 0 0 0 0, 0x2FFE, 0x2000),
     ([0xDC, 0x00, 0x20], fl 0 0 0 1 0, 0x2FFE, 0x2000),
     ([0xE4, 0x00, 0x20], fl 0 0 0 0 0, 0x2FFE, 0x2000),
     ([0xEC, 0x00, 0x20], fl 0 0 1 0 0, 0x2FFE, 0x2000),
     ([0xF4, 0x00, 0x20], fl 0 0 0 0 0, 0x2FFE, 0x2000),
     ([0xFC, 0x00, 0x20], fl 0 1 0 0 0, 0x2FFE, 0x2000)] : List (List Byte × Flags × Word × Word)).all (fun row =>
      (runAt 0x100 row.1 (st (rg 0 0 0 0 0 0 0) 0x3000 row.2.1 [])).map view ==
        some (rg 0 0 0 0 0 0 0, row.2.2.1, row.2.2.2, row.2.1, [])) = true := by decide

/-- V-BR-25 to V-BR-39: the eight conditional calls, not taken. -/
theorem test_V_BR_calls_not_taken :
    ([([0xC4, 0x00, 0x20], fl 1 0 0 0 0, 0x3000, 0x103),
     ([0xCC, 0x00, 0x20], fl 0 0 0 0 0, 0x3000, 0x103),
     ([0xD4, 0x00, 0x20], fl 0 0 0 1 0, 0x3000, 0x103),
     ([0xDC, 0x00, 0x20], fl 0 0 0 0 0, 0x3000, 0x103),
     ([0xE4, 0x00, 0x20], fl 0 0 1 0 0, 0x3000, 0x103),
     ([0xEC, 0x00, 0x20], fl 0 0 0 0 0, 0x3000, 0x103),
     ([0xF4, 0x00, 0x20], fl 0 1 0 0 0, 0x3000, 0x103),
     ([0xFC, 0x00, 0x20], fl 0 0 0 0 0, 0x3000, 0x103)] : List (List Byte × Flags × Word × Word)).all (fun row =>
      (runAt 0x100 row.1 (st (rg 0 0 0 0 0 0 0) 0x3000 row.2.1 [])).map view ==
        some (rg 0 0 0 0 0 0 0, row.2.2.1, row.2.2.2, row.2.1, [])) = true := by decide

/-- V-BR-42 to V-BR-56 (R144 to R151): the eight conditional returns, taken. -/
theorem test_V_BR_returns_taken :
    ([([0xC0], fl 0 0 0 0 0, 0x3000, 0x103),
     ([0xC8], fl 1 0 0 0 0, 0x3000, 0x103),
     ([0xD0], fl 0 0 0 0 0, 0x3000, 0x103),
     ([0xD8], fl 0 0 0 1 0, 0x3000, 0x103),
     ([0xE0], fl 0 0 0 0 0, 0x3000, 0x103),
     ([0xE8], fl 0 0 1 0 0, 0x3000, 0x103),
     ([0xF0], fl 0 0 0 0 0, 0x3000, 0x103),
     ([0xF8], fl 0 1 0 0 0, 0x3000, 0x103)] : List (List Byte × Flags × Word × Word)).all (fun row =>
      (runAt 0x2005 row.1 (st (rg 0 0 0 0 0 0 0) 0x2FFE row.2.1 [(0x2FFE, 3), (0x2FFF, 1)])).map view ==
        some (rg 0 0 0 0 0 0 0, row.2.2.1, row.2.2.2, row.2.1, [])) = true := by decide

/-- V-BR-43 to V-BR-57: the eight conditional returns, not taken. -/
theorem test_V_BR_returns_not_taken :
    ([([0xC0], fl 1 0 0 0 0, 0x2FFE, 0x2006),
     ([0xC8], fl 0 0 0 0 0, 0x2FFE, 0x2006),
     ([0xD0], fl 0 0 0 1 0, 0x2FFE, 0x2006),
     ([0xD8], fl 0 0 0 0 0, 0x2FFE, 0x2006),
     ([0xE0], fl 0 0 1 0 0, 0x2FFE, 0x2006),
     ([0xE8], fl 0 0 0 0 0, 0x2FFE, 0x2006),
     ([0xF0], fl 0 1 0 0 0, 0x2FFE, 0x2006),
     ([0xF8], fl 0 0 0 0 0, 0x2FFE, 0x2006)] : List (List Byte × Flags × Word × Word)).all (fun row =>
      (runAt 0x2005 row.1 (st (rg 0 0 0 0 0 0 0) 0x2FFE row.2.1 [(0x2FFE, 3), (0x2FFF, 1)])).map view ==
        some (rg 0 0 0 0 0 0 0, row.2.2.1, row.2.2.2, row.2.1, [])) = true := by decide

/-! ### Stack, I/O, control: the vectors of 95_test_vectors -/

/-- V-SK-1 (R153): PUSH B. -/
theorem test_V_SK_1 :
    (runAt 0x100 [0xC5] (st (rg 0 0x12 0x34 0 0 0 0) 0xFFFE (fl 0 0 0 0 0) [])).map view =
      some (rg 0 0x12 0x34 0 0 0 0, 0xFFFC, 0x101, fl 0 0 0 0 0, []) ∧
    (runAt 0x100 [0xC5] (st (rg 0 0x12 0x34 0 0 0 0) 0xFFFE (fl 0 0 0 0 0) [])).map (bytesAt [0xFFFC, 0xFFFD]) =
      some [0x34, 0x12] := by decide

/-- V-SK-3 (R153): PUSH H (SP=0000). -/
theorem test_V_SK_3 :
    (runAt 0x100 [0xE5] (st (rg 0 0 0 0 0 0x56 0x78) 0 (fl 0 0 0 0 0) [])).map view =
      some (rg 0 0 0 0 0 0x56 0x78, 0xFFFE, 0x101, fl 0 0 0 0 0, []) ∧
    (runAt 0x100 [0xE5] (st (rg 0 0 0 0 0 0x56 0x78) 0 (fl 0 0 0 0 0) [])).map (bytesAt [0xFFFE, 0xFFFF]) =
      some [0x78, 0x56] := by decide

/-- V-SK-4 (R153): PUSH H (SP=0001). -/
theorem test_V_SK_4 :
    (runAt 0x100 [0xE5] (st (rg 0 0 0 0 0 0x56 0x78) 1 (fl 0 0 0 0 0) [])).map view =
      some (rg 0 0 0 0 0 0x56 0x78, 0xFFFF, 0x101, fl 0 0 0 0 0, []) ∧
    (runAt 0x100 [0xE5] (st (rg 0 0 0 0 0 0x56 0x78) 1 (fl 0 0 0 0 0) [])).map (bytesAt [0, 0xFFFF]) =
      some [0x56, 0x78] := by decide

/-- V-SK-6 (R154): PUSH PSW (all flags 1). -/
theorem test_V_SK_6 :
    (runAt 0x100 [0xF5] (st (rg 0xFF 0 0 0 0 0 0) 0x3000 (fl 1 1 1 1 1) [])).map view =
      some (rg 0xFF 0 0 0 0 0 0, 0x2FFE, 0x101, fl 1 1 1 1 1, []) ∧
    (runAt 0x100 [0xF5] (st (rg 0xFF 0 0 0 0 0 0) 0x3000 (fl 1 1 1 1 1) [])).map (bytesAt [0x2FFE, 0x2FFF]) =
      some [0xD5, 0xFF] := by decide

/-- V-SK-7 (R155): POP B. -/
theorem test_V_SK_7 :
    (runAt 0x100 [0xC1] (st (rg 0 0 0 0 0 0 0) 0xFFFC (fl 0 0 0 0 0) [(0xFFFC, 0x34), (0xFFFD, 0x12)])).map view =
      some (rg 0 0x12 0x34 0 0 0 0, 0xFFFE, 0x101, fl 0 0 0 0 0, []) := by decide

/-- V-SK-9 (R155): POP H (SP=FFFF) at 0200. -/
theorem test_V_SK_9 :
    (runAt 0x200 [0xE1] (st (rg 0 0 0 0 0 0 0) 0xFFFF (fl 0 0 0 0 0) [(0, 0x56), (0xFFFF, 0x78)])).map view =
      some (rg 0 0 0 0 0 0x56 0x78, 1, 0x201, fl 0 0 0 0 0, []) := by decide

/-- V-SK-10 (R156): POP PSW. -/
theorem test_V_SK_10 :
    (runAt 0x100 [0xF1] (st (rg 0 0 0 0 0 0 0) 0x2FFE (fl 0 0 0 0 0) [(0x2FFE, 0x95), (0x2FFF, 0x12)])).map view =
      some (rg 0x12 0 0 0 0 0 0, 0x3000, 0x101, fl 0 1 1 1 1, []) := by decide

/-- V-SK-11 (R156): POP PSW (fill bits discarded). -/
theorem test_V_SK_11 :
    (runAt 0x100 [0xF1] (st (rg 0 0 0 0 0 0 0) 0x2FFE (fl 0 0 0 0 0) [(0x2FFE, 0x2A), (0x2FFF, 0)])).map view =
      some (rg 0 0 0 0 0 0 0, 0x3000, 0x101, fl 0 0 0 0 0, []) := by decide

/-- V-SK-12 (R157): XTHL. -/
theorem test_V_SK_12 :
    (runAt 0x100 [0xE3] (st (rg 0 0 0 0 0 0x12 0x34) 0x3000 (fl 0 0 0 0 0) [(0x3000, 0xCD), (0x3001, 0xAB)])).map view =
      some (rg 0 0 0 0 0 0xAB 0xCD, 0x3000, 0x101, fl 0 0 0 0 0, []) ∧
    (runAt 0x100 [0xE3]
        (st (rg 0 0 0 0 0 0x12 0x34) 0x3000 (fl 0 0 0 0 0) [(0x3000, 0xCD), (0x3001, 0xAB)])).map (bytesAt [0x3000, 0x3001]) =
      some [0x34, 0x12] := by decide

/-- V-SK-13 (R157): XTHL (SP=FFFF) at 0200. -/
theorem test_V_SK_13 :
    (runAt 0x200 [0xE3] (st (rg 0 0 0 0 0 0x12 0x34) 0xFFFF (fl 0 0 0 0 0) [(0, 0x22), (0xFFFF, 0x11)])).map view =
      some (rg 0 0 0 0 0 0x22 0x11, 0xFFFF, 0x201, fl 0 0 0 0 0, []) ∧
    (runAt 0x200 [0xE3]
        (st (rg 0 0 0 0 0 0x12 0x34) 0xFFFF (fl 0 0 0 0 0) [(0, 0x22), (0xFFFF, 0x11)])).map (bytesAt [0, 0xFFFF]) =
      some [0x12, 0x34] := by decide

/-- V-SK-14 (R158): SPHL. -/
theorem test_V_SK_14 :
    (runAt 0x100 [0xF9] (st (rg 0 0 0 0 0 0x40 0) 0 (fl 0 0 0 0 0) [])).map view =
      some (rg 0 0 0 0 0 0x40 0, 0x4000, 0x101, fl 0 0 0 0 0, []) := by decide

/-- V-SK-15 (R159): IN 01. -/
theorem test_V_SK_15 :
    (runAt 0x100 [0xDB, 0x01] ((st (rg 0 0 0 0 0 0 0) 0 (fl 0 0 0 0 0) []).setInputPort 1 0x5C)).map view =
      some (rg 0x5C 0 0 0 0 0 0, 0, 0x102, fl 0 0 0 0 0, []) := by decide

/-- V-SK-17 (R160): OUT 02. -/
theorem test_V_SK_17 :
    (runAt 0x100 [0xD3, 0x02] (st (rg 8 0 0 0 0 0 0) 0 (fl 0 0 0 0 0) [])).map view =
      some (rg 8 0 0 0 0 0 0, 0, 0x102, fl 0 0 0 0 0, []) ∧
    (runAt 0x100 [0xD3, 0x02]
        (st (rg 8 0 0 0 0 0 0) 0 (fl 0 0 0 0 0) [])).map (fun t => (t.readOutPort 2, t.outPort.length)) = some (8, 1) := by decide

/-- V-SK-18 (R161): HLT at 0005. -/
theorem test_V_SK_18 :
    (runAt 0x5 [0x76] (st (rg 0 0 0 0 0 0 0) 0 (fl 0 0 0 0 0) [])).map view =
      some (rg 0 0 0 0 0 0 0, 0, 0x6, fl 0 0 0 0 0, []) ∧
    (runAt 0x5 [0x76]
        (st (rg 0 0 0 0 0 0 0) 0 (fl 0 0 0 0 0) [])).map (fun t => (t.halted, t.ctrl)) = some (true, .halted) := by decide

/-- V-SK-20 (R162): NOP at FFFF. -/
theorem test_V_SK_20 :
    (runAt 0xFFFF [0x00] (st (rg 0 0 0 0 0 0 0) 0 (fl 0 0 0 0 0) [])).map view =
      some (rg 0 0 0 0 0 0 0, 0, 0x0, fl 0 0 0 0 0, []) := by decide

/-- V-SK-6's note: with `pswFillBits` = (1, 1, 1) the pushes of V-SK-5 and V-SK-6 write 0xBF and 0xFF. -/
theorem test_V_SK_fill_bits :
    (runAt 0x100 [0xF5] (setCfg { Config.default with fill5 := true, fill3 := true, fill1 := true }
        (st (rg 0x12 0 0 0 0 0 0) 0x3000 (fl 0 1 1 1 1) []))).map (bytesAt [0x2FFE, 0x2FFF]) = some [0xBF, 0x12] ∧
    (runAt 0x100 [0xF5] (setCfg { Config.default with fill5 := true, fill3 := true, fill1 := true }
        (st (rg 0xFF 0 0 0 0 0 0) 0x3000 (fl 1 1 1 1 1) []))).map (bytesAt [0x2FFE, 0x2FFF]) = some [0xFF, 0xFF] := by
  decide

/-! ### Unsupported opcodes, and tier `unnamed` under the two other policies (95_test_vectors section 7) -/

/-- V-UN-1 to V-UN-22 (R163); the controller ends in READY (60_exceptions R177). -/
theorem test_V_UN :
    ([0x08, 0x10, 0x18, 0x20, 0x28, 0x30, 0x38, 0xC7, 0xCB, 0xCF, 0xD7, 0xD9, 0xDD, 0xDF, 0xE7, 0xED, 0xEF, 0xF3, 0xF7,
        0xFB, 0xFD, 0xFF] : List Byte).all (fun op =>
      (runAt 0x100 [op, 0x3E, 0x01] (st (rg 0x11 0 0 0 0 0 0) 0x3000 (fl 1 0 0 0 0) [])).map
          (fun t => (view t, t.ctrl)) ==
        some ((rg 0x11 0 0 0 0 0 0, 0x3000, 0x101, fl 1 0 0 0 0, [.unsupportedOpcode op]), .ready)) = true := by decide

/-- Section 7's last paragraph: 0xCD 00 20 under `unsupported`. -/
theorem test_unnamed_under_unsupported :
    (runAt 0x100 [0xCD, 0x00, 0x20] (setCfg (policy .unsupported) (st (rg 0x11 0 0 0 0 0 0) 0x3000 (fl 1 0 0 0 0) []))).map
        view =
      some (rg 0x11 0 0 0 0 0 0, 0x3000, 0x101, fl 1 0 0 0 0, [.unsupportedOpcode 0xCD]) := by decide

/-- Section 7's last sentence: under `refuse` such a step has no defined result; the refusal names opcode and address. -/
theorem test_unnamed_under_refuse :
    refusalOf (placedAt 0x100 [0xCD, 0x00, 0x20] (setCfg (policy .refuse) State.reset)) =
      some (.unnamedTier 0xCD 0x100) ∧
    (runAt 0x100 [0xC9] (setCfg (policy .refuse) State.reset)).isSome = true := by decide

/-! ### The controller and the host (95_test_vectors section 8) -/

/-- The reset state with these bytes at 0 and these moves of the host to come. -/
def ready (bytes : List Byte) (moves : List HostMove) : State :=
  { State.reset.loadBytes 0 bytes with hostMoves := moves }

/-- At most `n` steps, as long as each answers a next state. -/
def steps : Nat → State → Option State
  | 0, s => some s
  | n + 1, s => (nextOf s).bind (steps n)

/-- ctrl, breakPending, halted, PC. -/
def control (s : State) : Ctrl × Bool × Bool × Word := (s.ctrl, s.breakPending, s.halted, s.pc)

/-- V-CT-1 and V-CT-2 (R174): one step of step mode, of NOP and of HLT. -/
theorem test_V_CT_1_2 :
    (steps 2 (ready [0x00] [.requestStep])).map control = some (.ready, false, false, 1) ∧
    (steps 2 (ready [0x76] [.requestStep])).map control = some (.halted, false, true, 1) := by decide

/-- V-CT-3 (R178): in HALTED, run and step requests have no effect. -/
theorem test_V_CT_3 :
    (steps 3 { ready [0x76] [.requestRun, .requestStep] with pc := 1, halted := true, ctrl := .halted }).map control =
      some (.halted, false, true, 1) := by decide

/-- V-CT-4 (R176): a break asked for after the first step is taken at the step boundary. -/
theorem test_V_CT_4 :
    (steps 4 (ready [0x00, 0x00, 0x76] [.requestRun, .proceed, .requestBreak])).map control =
      some (.paused, false, false, 1) := by decide

/-- V-CT-5 and V-CT-6 (R173, R174): resume and step from PAUSED. -/
theorem test_V_CT_5_6 :
    (steps 3 { ready [0x00, 0x00, 0x76] [.requestRun] with pc := 1, ctrl := .paused }).map control =
      some (.halted, false, true, 3) ∧
    (steps 2 { ready [0x00, 0x00, 0x76] [.requestStep] with pc := 1, ctrl := .paused }).map control =
      some (.ready, false, false, 2) := by decide

/-- V-CT-7 (R176): a break request in READY has no effect. -/
theorem test_V_CT_7 : (steps 1 (ready [] [.requestBreak])).map control = some (.ready, false, false, 0) := by decide

/-- V-CT-8 (R177): an unsupported opcode ends the run in READY. -/
theorem test_V_CT_8 :
    (steps 3 (ready [0x3E, 0x01, 0xFF, 0x3E, 0x02, 0x76] [.requestRun])).map (fun t => (control t, t.regs.a, t.events)) =
      some ((.ready, false, false, 3), 1, [.unsupportedOpcode 0xFF]) := by decide

/-- V-CT-10 (R179): reset from HALTED; memory is all zero without a preload. -/
theorem test_V_CT_10 :
    (steps 1 { ready [0x76] [.requestReset] with pc := 6, regs := rg 2 0 0 0 0 0 0, halted := true, ctrl := .halted }).map
        (fun t => (control t, t.regs, t.mem)) =
      some ((.ready, false, false, 0), rg 0 0 0 0 0 0 0, []) := by decide

/-- V-CT-11 (R180): poke while RUNNING is no legal move. -/
theorem test_V_CT_11 :
    refusalOf { ready [] [.poke 0x2000 0x55] with ctrl := .running .run } =
      some (.hostMoveNotAllowed (.poke 0x2000 0x55)) := by decide

/-- V-CT-12 (R180): set_pc, set_input_port, two pokes, and one step. -/
theorem test_V_CT_12 :
    (steps 6 (ready [] [.setPc 0x0200, .setInputPort 0x01 0x5C, .poke 0x0200 0xDB, .poke 0x0201 0x01, .requestStep])).map
        (fun t => (control t, t.regs.a)) =
      some ((.ready, false, false, 0x0202), 0x5C) := by decide

/-- 20_memory R52 and R40: load wraps at 0xFFFF, and a port number is taken modulo 256. -/
theorem test_load_wraps :
    (steps 1 (ready [] [.load [0x11, 0x22] 0xFFFF])).map (bytesAt [0xFFFF, 0x0000]) = some [0x11, 0x22] ∧
    (steps 1 (ready [] [.setInputPort 0x101 0x5C])).map (fun t => t.readInPort 1) = some 0x5C := by decide

/-- 20_memory R53: a malformed image restores to zeros. -/
theorem test_restore_of_a_malformed_image :
    (steps 1 (ready [0x76] [.restore [1, 2, 3]])).map (fun t => t.mem) = some [] := by decide

/-- How a program comes to run from reset (log entry 2): three moves of the host, and the fourth step executes the first
instruction of L1-6, MVI A,05. -/
theorem test_boot :
    (steps 4 (State.boot [0x3E, 0x05, 0x06, 0x03, 0x80, 0x76] 0)).map (fun t => (control t, t.regs.a)) =
      some ((.running .run, false, false, 2), 5) := by decide

/-- From State.reset with no move of the host, a step changes nothing (60_exceptions R182, log entry 4). -/
theorem test_reset_idles : nextOf State.reset = some State.reset := by decide

/-- The host's entry to a step: JMP 2050 placed after reset is the very next thing that runs. -/
theorem test_withFetchWord :
    (nextOf (State.reset.withFetchWord 24 0x2050C3)).map control = some (.running .run, false, false, 0x2050) ∧
    (State.reset.withFetchWord 24 0x2050C3).fetchInstr = .jmp 0x2050 := by decide

/-! ## Witnesses: for each statement with hypotheses, a concrete case that meets them all -/

/-- The reset state, RUNNING in run mode, with this instruction's bytes at PC = 0. -/
def running (bytes : List Byte) : State := placedAt 0 bytes State.reset

theorem test_witness_EncodeOfDecode : decode [0xC3, 0xFF, 0xFF, 0x76] = .ok (.jmp 0xFFFF, [0x76]) := by rfl

theorem test_witness_EveryOpcode :
    Instr.hlt.opcode = 0x76 ∧ opcodeLength 0xC3 ≤ [(0x00 : Byte), 0x00].length + 1 ∧
    ¬ opcodeLength 0xC3 ≤ [(0x00 : Byte)].length + 1 := by decide

theorem test_witness_Length :
    (Instr.lxiB 0).opcode ∈ threeByteOpcodes ∧ (Instr.inp 0).opcode ∈ twoByteOpcodes ∧
    (0xDB : Byte) ∉ threeByteOpcodes ∧ Instr.rst7.opcode ∈ unsupportedOpcodes ∧ Instr.hlt.opcode ∉ twoByteOpcodes := by
  decide

theorem test_witness_Tier :
    Instr.rim.opcode ∈ unsupportedOpcodes ∧ Instr.rim.opcode ∉ unnamedOpcodes ∧ Instr.xchg.opcode ∈ unnamedOpcodes ∧
    Instr.xchg.opcode ∉ unsupportedOpcodes := by decide

/-- A word at 0xFFFF: its two bytes, and a byte that is neither. -/
theorem test_witness_Memory :
    (0x8000 : Word) ≠ 0xFFFF ∧ (0x8000 : Word) ≠ 0xFFFF + 1 ∧
    bytesAt [0xFFFF, 0x0000, 0x8000] (State.reset.writeWord 0xFFFF 0x1234) = [0x34, 0x12, 0x00] := by decide

theorem test_witness_CanonicalMemory :
    ∃ m n : Memory, m.wf ∧ n.wf ∧ m ≠ [] ∧ ∀ a : Word, m.read a.toNat = n.read a.toNat :=
  ⟨[(0, 1), (65535, 255)], [(0, 1), (65535, 255)], by decide, by decide, by decide, fun _ => rfl⟩

/-- Both kinds of destination, and the same register twice. -/
theorem test_witness_Mov :
    ¬ (R8.h = .m ∧ R8.m = .m) ∧ ¬ (R8.m = .m ∧ R8.l = .m) ∧ R8.a ≠ .m ∧
    (exec .movHM (st (rg 0 0 0 0 0 0xFF 0xFF) 0 (fl 1 1 1 1 1) [(65535, 0x30)])) =
      .next { st (rg 0 0 0 0 0 0x30 0xFF) 0 (fl 1 1 1 1 1) [(65535, 0x30)] with pc := 1 } :=
  ⟨by decide, by decide, by decide, by rfl⟩

/-- The default policy is the one that LXI, XCHG, DAA, JPO, JPE, CALL, Ccc, Rcc, XTHL and SPHL ask for. -/
theorem test_witness_policy_execute : State.reset.cfg.unnamedTierPolicy = .execute := by rfl

/-- XCHG completes, as its last clause supposes. -/
theorem test_witness_Xchg :
    exec .xchg (st (rg 0 0 0 1 2 3 4) 0 (fl 0 0 0 0 0) []) =
      .next { st (rg 0 0 0 3 4 1 2) 0 (fl 0 0 0 0 0) [] with pc := 1 } := by rfl

/-- Both values of `subAuxCarry`, on operands that differ in the low nibble's borrow (SUB, SBB, SUI, SBI, CMP, CPI, DCR). -/
theorem test_witness_subAuxCarry :
    Config.default.subAuxCarry = .borrow ∧
    ({ Config.default with subAuxCarry := .carry8080 } : Config).subAuxCarry = .carry8080 ∧
    (subAlu .borrow 0x10 0x01 false).ac = true ∧ (subAlu .carry8080 0x10 0x01 false).ac = false := by decide

/-- Both values of `incDecWritesCarry` (INR, DCR). -/
theorem test_witness_incDecWritesCarry :
    Config.default.incDecWritesCarry = false ∧
    ({ Config.default with incDecWritesCarry := true } : Config).incDecWritesCarry = true := by decide

/-- DAA: both corrections, one, none, at the digits' boundary values. -/
theorem test_witness_Daa :
    (State.reset.cfg.unnamedTierPolicy = .execute) ∧
    (runAt 0 [0x27] (st (rg 0x99 0 0 0 0 0 0) 0 (fl 0 0 0 0 0) [])).map (fun t => (t.regs.a, t.flags.cy)) =
      some (0x99, false) ∧
    (runAt 0 [0x27] (st (rg 0x9A 0 0 0 0 0 0) 0 (fl 0 0 0 0 0) [])).map (fun t => (t.regs.a, t.flags.cy)) =
      some (0x00, true) ∧
    (runAt 0 [0x27] (st (rg 0x00 0 0 0 0 0 0) 0 (fl 0 0 0 1 0) [])).map (fun t => (t.regs.a, t.flags.cy)) =
      some (0x60, true) := by decide

/-- Decimal operands, at the largest value: 99 + 99 = 198. -/
theorem test_witness_DecimalAddition :
    isDecimal 0x99 ∧ isDecimal ((st (rg 0x99 0x99 0 0 0 0 0) 0 (fl 0 0 0 0 0) []).readR .b) ∧ ¬ isDecimal 0x9A ∧
    decimalValue 0x99 + decimalValue 0x99 = 100 * 1 + decimalValue 0x98 := by
  unfold isDecimal decimalValue; decide

theorem test_witness_AddThenSub : R8.m ≠ .a ∧ R8.b ≠ .a := by decide

/-- A row taken and a row not taken of the conditional jumps, calls and returns, at reset. -/
theorem test_witness_Conditionals :
    (!State.reset.flags.z) = true ∧ State.reset.flags.z = false ∧ State.reset.cfg.unnamedTierPolicy = .execute ∧
    (exec (.cnz 0x2000) State.reset =
      .next { State.reset with mem := [(65534, 0x03)], sp := 0xFFFE, pc := 0x2000 }) ∧
    exec (.cz 0x2000) State.reset = .next { State.reset with pc := 3 } ∧
    exec .rz State.reset = .next { State.reset with pc := 1 } := ⟨rfl, rfl, rfl, rfl, rfl, rfl⟩

/-- A state that CALL left, and another one with the same SP and memory. -/
theorem test_witness_ReturnUndoesTheCall :
    ∃ t u : State, exec (.call 0x2000) State.reset = .next t ∧ u.sp = t.sp ∧ u.mem = t.mem ∧ u ≠ t :=
  ⟨{ State.reset with mem := [(65534, 0x03)], sp := 0xFFFE, pc := 0x2000 },
    { State.reset with mem := [(65534, 0x03)], sp := 0xFFFE, pc := 0x2006 }, rfl, rfl, rfl, by decide⟩

theorem test_witness_PushPop : StackPair.hl ≠ .psw ∧ (0x0002 : Word) ≠ 0x0001 - 1 ∧ (0x0002 : Word) ≠ 0x0001 - 2 := by decide

theorem test_witness_InAndOut :
    (0xFE : Byte) ≠ 0xFF ∧
    (runAt 0 [0xD3, 0xFF] (st (rg 8 0 0 0 0 0 0) 0 (fl 0 0 0 0 0) [])).map
      (fun t => (t.readOutPort 0xFF, t.readOutPort 0xFE)) = some (8, 0) := by decide

theorem test_witness_Unsupported : Instr.undoc08.opcode ∈ unsupportedOpcodes ∧ Instr.rst7.opcode ∈ unsupportedOpcodes := by
  decide

/-- The three clauses: `unsupported`, `refuse`, and neither. -/
theorem test_witness_UnnamedTierPolicies :
    (Instr.call 0).opcode ∈ unnamedOpcodes ∧
    (setCfg (policy .unsupported) State.reset).cfg.unnamedTierPolicy = .unsupported ∧
    (setCfg (policy .refuse) State.reset).cfg.unnamedTierPolicy = .refuse ∧
    (Instr.ret.opcode ∉ unnamedOpcodes) ∧ State.reset.cfg.unnamedTierPolicy ≠ .refuse := by decide

/-- An instruction outside each list of the whole-machine statements completes, and one inside each list. -/
theorem test_witness_WholeMachine :
    exec .nop State.reset = .next { State.reset with pc := 1 } ∧
    (¬ WritesResultFlags Instr.nop.opcode ∧ ¬ WritesCarry true Instr.nop.opcode) ∧
    Instr.nop.opcode ∉ storingOpcodes ∧ Instr.nop.opcode ∉ spWritingOpcodes ∧
    (WritesResultFlags Instr.cmpA.opcode ∧ WritesCarry true Instr.inrA.opcode ∧ ¬ WritesCarry false Instr.inrA.opcode) ∧
    Instr.pushB.opcode ∈ storingOpcodes ∧ Instr.pushB.opcode ∈ spWritingOpcodes :=
  ⟨rfl, by unfold WritesCarry WritesResultFlags; decide, by decide, by decide,
    by unfold WritesCarry WritesResultFlags; decide, by decide, by decide⟩

/-- STA sends the hint; another instruction sends none. -/
theorem test_witness_AtMostOneEvent :
    exec (.sta 0x2050) State.reset = .next { State.reset with pc := 3, events := [.persistHint 0x2050] } ∧
    (∀ a16, Instr.nop ≠ .sta a16) := ⟨rfl, fun _ h => by cases h⟩

/-- An instruction that is not IN, and one that is. -/
theorem test_witness_Ports : (∀ n, Instr.nop ≠ .inp n) ∧ ∃ t, exec (.inp 1) State.reset = .next t :=
  ⟨fun _ h => (by cases h), _, rfl⟩

/-- A state with the invariant in each state of the controller, and a step of it. -/
theorem test_witness_Invariant :
    State.reset.Inv ∧ (running [0x76]).Inv ∧ (nextOf (running [0x76])).isSome = true ∧
    ({ running [0x00] with breakPending := true }).Inv ∧
    ({ State.reset with halted := true, ctrl := .halted }).Inv ∧ ({ State.reset with ctrl := .paused }).Inv ∧
    ¬ ({ State.reset with halted := true }).Inv ∧ ¬ ({ State.reset with mem := [(0, 0)] }).Inv :=
  ⟨by decide, by decide, by decide, by decide, by decide, by decide, by decide, by decide⟩

/-- The premises of the step statement, in both modes, and the three outcomes for the controller. -/
theorem test_witness_StepRuns :
    (running [0x76]).hostMoves = [] ∧ (running [0x76]).breakPending = false ∧
    (decode [(running [0x76]).readByte 0, (running [0x76]).readByte 1, (running [0x76]).readByte 2] =
      .ok (.hlt, [0, 0])) ∧
    (nextOf (running [0x76])).map control = some (.halted, false, true, 1) ∧
    (nextOf (running [0x00])).map control = some (.running .run, false, false, 1) ∧
    (nextOf { running [0x00] with ctrl := .running .step }).map control = some (.ready, false, false, 1) ∧
    (nextOf (running [0xFF])).map control = some (.ready, false, false, 1) ∧
    refusalOf (setCfg (policy .refuse) (running [0x27])) = some (.unnamedTier 0x27 0) :=
  ⟨rfl, rfl, rfl, by decide, by decide, by decide, by decide, by decide⟩

/-- Each request where it acts and where it does not, a pending break, and an idle step. -/
theorem test_witness_ControllerTransitions :
    (nextOf { running [] with hostMoves := [.requestRun] }).map control = some (.running .run, false, false, 0) ∧
    (nextOf { running [] with hostMoves := [.requestBreak] }).map control = some (.running .run, true, false, 0) ∧
    (nextOf { running [] with ctrl := .running .step, hostMoves := [.requestBreak] }).map control =
      some (.running .step, false, false, 0) ∧
    (nextOf { running [] with breakPending := true }).map control = some (.paused, false, false, 0) ∧
    (nextOf { State.reset with ctrl := .paused, hostMoves := [.requestStep] }).map control =
      some (.running .step, false, false, 0) := ⟨by decide, by decide, by decide, by decide, by decide⟩

/-- In HALTED: a move that is no reset, and no move at all. -/
theorem test_witness_Halted :
    (∀ moves, [HostMove.setPc 5] ≠ .requestReset :: moves) ∧ (∀ moves, ([] : List HostMove) ≠ .requestReset :: moves) ∧
    (∀ a moves, [HostMove.requestRun] ≠ .setPc a :: moves) ∧
    (nextOf { State.reset with halted := true, ctrl := .halted, hostMoves := [.setPc 5] }).map control =
      some (.halted, false, true, 5) :=
  ⟨fun _ h => (by cases h), fun _ h => (by cases h), fun _ _ h => (by cases h), by decide⟩

/-- A well-formed image of 65536 bytes that is not zero, and images wrong in length and in an entry (ResetResult, HostEdits). -/
theorem test_witness_Images :
    (List.replicate 65536 201).length = 65536 ∧ (∀ n ∈ List.replicate 65536 201, n < 256) ∧
    ¬ (([] : List Nat).length = 65536 ∧ ∀ n ∈ ([] : List Nat), n < 256) ∧
    ¬ ((List.replicate 65536 256).length = 65536 ∧ ∀ n ∈ List.replicate 65536 256, n < 256) :=
  ⟨List.length_replicate, fun n h => by rw [List.eq_of_mem_replicate h]; decide, fun h => by simp at h,
    fun h => absurd (h.2 256 (List.mem_replicate.2 ⟨by decide, rfl⟩)) (by decide)⟩

/-- An edit outside RUNNING; the last of two bytes of a load, which nothing of the load overwrites; an address outside it. -/
theorem test_witness_HostEdits :
    (∀ m, State.reset.ctrl ≠ .running m) ∧
    (∀ j, 1 < j → j < [(0x11 : Byte), 0x22].length → BitVec.ofNat 16 (0xFFFF + j) ≠ BitVec.ofNat 16 (0xFFFF + 1)) ∧
    (∀ k, k < [(0x11 : Byte), 0x22].length → (0x8000 : Word) ≠ BitVec.ofNat 16 (0xFFFF + k)) ∧
    (0xFE : Byte) ≠ BitVec.ofNat 8 0x1FF :=
  ⟨fun _ h => (by cases h), fun j h1 h2 => absurd h2 (by simp only [List.length_cons, List.length_nil]; omega),
    by decide, by decide⟩

/-- The two refusals, in both modes and with the move `proceed`, with what each names. -/
theorem test_witness_StepIsRefused :
    refusalOf { running [] with hostMoves := [.setPc 0x200, .requestRun] } = some (.hostMoveNotAllowed (.setPc 0x200)) ∧
    ({ running [] with hostMoves := [.setPc 0x200, .requestRun] } : State).EditWhileRunning (.setPc 0x200) ∧
    refusalOf (setCfg (policy .refuse) (running [0xEB])) = some (.unnamedTier 0xEB 0) ∧
    (setCfg (policy .refuse) (running [0xEB])).ExecutesNext ∧
    refusalOf { setCfg (policy .refuse) (running [0xEB]) with ctrl := .running .step, hostMoves := [.proceed] } =
      some (.unnamedTier 0xEB 0) ∧
    (setCfg (policy .refuse) (running [0xEB])).readByte 0 ∈ unnamedOpcodes :=
  ⟨by decide, ⟨rfl, ⟨_, rfl⟩, _, rfl⟩, by decide, ⟨⟨_, rfl, fun _ => rfl⟩, .inl rfl⟩, by decide, by decide⟩

/-- States that meet the premises of the completion clause: RUNNING on a named opcode under `refuse`, a break pending before
an unnamed one, and an edit in READY. -/
theorem test_witness_StepCompletes :
    (∀ move, ¬ (setCfg (policy .refuse) (running [0xC9])).EditWhileRunning move) ∧
    (setCfg (policy .refuse) (running [0xC9])).readByte 0 ∉ unnamedOpcodes ∧
    ¬ ({ setCfg (policy .refuse) (running [0xEB]) with breakPending := true } : State).ExecutesNext ∧
    (∀ move, ¬ ({ State.reset with hostMoves := [.setPc 5] } : State).EditWhileRunning move) ∧
    ¬ ({ State.reset with hostMoves := [.setPc 5] } : State).ExecutesNext :=
  ⟨fun _ ⟨_, ⟨_, h⟩, _⟩ => (by cases h), by decide,
    fun ⟨⟨_, hc, hb⟩, _⟩ => (by cases hc; cases hb rfl), fun _ ⟨_, _, _, h⟩ => (by cases h), fun ⟨⟨_, h, _⟩, _⟩ => (by cases h)⟩

end Sys2Proof.Tests
end

section
/-! Proofs about the state: the families of instructions and what each of them reads and writes (10_state R16 to R31), the
invariant of the machine, reset, the register pairs and the flag byte. -/

namespace Sys2Proof.Machine

/-! ## The families of instructions (30_encoding R63)

Each opcode of the map stands in one family, and each family has one effect on the state. A proof about every instruction
is a proof for each family; the codes of an instruction are the operands of its family. -/

/-- Every instruction is what the decoder reads from its opcode byte and its operand bytes. -/
theorem decodeFields_opcode_operandBytes (i : Instr) :
    decodeFields i.opcode (i.operandBytes.getD 0 0) (i.operandBytes.getD 1 0) = i := by
  cases i
  case lxiB w | lxiD w | lxiH w | lxiSP w | shld w | lhld w | sta w | lda w | jmp w | jnz w | jz w | jnc w | jc w |
      jpo w | jpe w | jp w | jm w | call w | cnz w | cz w | cnc w | cc w | cpo w | cpe w | cp w | cm w =>
    rw [← ofBytes_hiByte_loByte w]
    simp only [Instr.opcode, Instr.operandBytes, loByte_ofBytes, hiByte_ofBytes]
    rfl
  case mviB | mviC | mviD | mviE | mviH | mviL | mviM | mviA | adi | aci | sui | sbi | ani | xri | ori | cpi | inp |
      outp =>
    simp only [Instr.opcode, Instr.operandBytes]
    rfl
  all_goals rfl

/-- The effect that the rule of an instruction gives. -/
inductive HasEffect : Instr → (State → State) → Prop where
  | nop : HasEffect .nop nopEffect
  | hlt : HasEffect .hlt hltEffect
  | mov (dst src : R8) (h : ¬ (dst = .m ∧ src = .m)) : HasEffect (Instr.mov dst src) (movEffect dst src)
  | mvi (dst : R8) (d8 : Byte) : HasEffect (Instr.mvi d8 dst) (mviEffect dst d8)
  | lxi (rp : RegPair) (d16 : Word) : HasEffect (Instr.lxi d16 rp) (lxiEffect rp d16)
  | lda (a16 : Word) : HasEffect (.lda a16) (ldaEffect a16)
  | sta (a16 : Word) : HasEffect (.sta a16) (staEffect a16)
  | ldax (rp : IndexPair) : HasEffect (Instr.ldax rp) (ldaxEffect rp)
  | stax (rp : IndexPair) : HasEffect (Instr.stax rp) (staxEffect rp)
  | lhld (a16 : Word) : HasEffect (.lhld a16) (lhldEffect a16)
  | shld (a16 : Word) : HasEffect (.shld a16) (shldEffect a16)
  | xchg : HasEffect .xchg xchgEffect
  | alu (op : AluOp) (src : R8) : HasEffect (Instr.alu op src) (regEffect (aluEffect op) src)
  | aluImm (op : AluOp) (d8 : Byte) : HasEffect (Instr.aluImm d8 op) (aluEffect op d8)
  | inr (dst : R8) : HasEffect (Instr.inr dst) (inrEffect dst)
  | dcr (dst : R8) : HasEffect (Instr.dcr dst) (dcrEffect dst)
  | inx (rp : RegPair) : HasEffect (Instr.inx rp) (inxEffect rp)
  | dcx (rp : RegPair) : HasEffect (Instr.dcx rp) (dcxEffect rp)
  | dad (rp : RegPair) : HasEffect (Instr.dad rp) (dadEffect rp)
  | daa : HasEffect .daa daaEffect
  | rlc : HasEffect .rlc rlcEffect
  | rrc : HasEffect .rrc rrcEffect
  | ral : HasEffect .ral ralEffect
  | rar : HasEffect .rar rarEffect
  | cma : HasEffect .cma cmaEffect
  | cmc : HasEffect .cmc cmcEffect
  | stc : HasEffect .stc stcEffect
  | jmp (a16 : Word) : HasEffect (.jmp a16) (jmpEffect a16)
  | jcc (cond : Cond) (a16 : Word) : HasEffect (Instr.jcc a16 cond) (jccEffect cond a16)
  | pchl : HasEffect .pchl pchlEffect
  | call (a16 : Word) : HasEffect (.call a16) (callEffect a16)
  | ccc (cond : Cond) (a16 : Word) : HasEffect (Instr.ccc a16 cond) (cccEffect cond a16)
  | ret : HasEffect .ret retEffect
  | rcc (cond : Cond) : HasEffect (Instr.rcc cond) (rccEffect cond)
  | push (rp : StackPair) : HasEffect (Instr.push rp) (pushEffect rp)
  | pop (rp : StackPair) : HasEffect (Instr.pop rp) (popEffect rp)
  | xthl : HasEffect .xthl xthlEffect
  | sphl : HasEffect .sphl sphlEffect
  | inp (port : Byte) : HasEffect (.inp port) (inEffect port)
  | outp (port : Byte) : HasEffect (.outp port) (outEffect port)
  | unsupported (i : Instr) (h : i.tier = .unsupported) : HasEffect i unsupportedEffect

/-- `exec` is the transaction of the instruction with its family's effect. -/
theorem HasEffect.exec_eq {i : Instr} {effect : State → State} (h : HasEffect i effect) (s : State) :
    exec i s = perform i effect s := by
  cases h with
  | mov dst src h => cases dst <;> cases src <;> first | rfl | exact absurd ⟨rfl, rfl⟩ h
  | alu op src => cases op <;> cases src <;> rfl
  | aluImm op => cases op <;> rfl
  | mvi r | inr r | dcr r => cases r <;> rfl
  | lxi rp | inx rp | dcx rp | dad rp | ldax rp | stax rp | push rp | pop rp => cases rp <;> rfl
  | jcc cond | ccc cond | rcc cond => cases cond <;> rfl
  | unsupported _ h => rw [exec_unsupported s h, perform_raise s (by rw [h]; rfl)]
  | _ => rfl

theorem hasEffect_decodeQuarter0 (mid low : Nat) (d8 : Byte) (d16 : Word) :
    ∃ effect, HasEffect (decodeQuarter0 mid low d8 d16) effect := by
  unfold decodeQuarter0
  split
  · split
    · exact ⟨_, .nop⟩
    all_goals exact ⟨_, .unsupported _ rfl⟩
  · split
    · exact ⟨_, .lxi _ _⟩
    · exact ⟨_, .dad _⟩
  · split
    · exact ⟨_, .stax .bc⟩
    · exact ⟨_, .ldax .bc⟩
    · exact ⟨_, .stax .de⟩
    · exact ⟨_, .ldax .de⟩
    · exact ⟨_, .shld _⟩
    · exact ⟨_, .lhld _⟩
    · exact ⟨_, .sta _⟩
    · exact ⟨_, .lda _⟩
  · split
    · exact ⟨_, .inx _⟩
    · exact ⟨_, .dcx _⟩
  · exact ⟨_, .inr _⟩
  · exact ⟨_, .dcr _⟩
  · exact ⟨_, .mvi _ _⟩
  · split
    · exact ⟨_, .rlc⟩
    · exact ⟨_, .rrc⟩
    · exact ⟨_, .ral⟩
    · exact ⟨_, .rar⟩
    · exact ⟨_, .daa⟩
    · exact ⟨_, .cma⟩
    · exact ⟨_, .stc⟩
    · exact ⟨_, .cmc⟩

theorem hasEffect_decodeQuarter3 (mid low : Nat) (d8 : Byte) (d16 : Word) :
    ∃ effect, HasEffect (decodeQuarter3 mid low d8 d16) effect := by
  unfold decodeQuarter3
  split
  · exact ⟨_, .rcc _⟩
  · split
    · exact ⟨_, .pop _⟩
    · split
      · exact ⟨_, .ret⟩
      · exact ⟨_, .unsupported _ rfl⟩
      · exact ⟨_, .pchl⟩
      · exact ⟨_, .sphl⟩
  · exact ⟨_, .jcc _ _⟩
  · split
    · exact ⟨_, .jmp _⟩
    · exact ⟨_, .unsupported _ rfl⟩
    · exact ⟨_, .outp _⟩
    · exact ⟨_, .inp _⟩
    · exact ⟨_, .xthl⟩
    · exact ⟨_, .xchg⟩
    all_goals exact ⟨_, .unsupported _ rfl⟩
  · exact ⟨_, .ccc _ _⟩
  · split
    · exact ⟨_, .push _⟩
    · split
      · exact ⟨_, .call _⟩
      all_goals exact ⟨_, .unsupported _ rfl⟩
  · exact ⟨_, .aluImm _ _⟩
  · split
    all_goals exact ⟨_, .unsupported _ rfl⟩

/-- MOV and, at MOV M,M, HLT. -/
theorem hasEffect_mov (dst src : R8) : ∃ effect, HasEffect (Instr.mov dst src) effect := by
  by_cases h : dst = .m ∧ src = .m
  · obtain ⟨rfl, rfl⟩ := h
    exact ⟨_, .hlt⟩
  · exact ⟨_, .mov dst src h⟩

/-- Whatever the decoder reads stands in a family. -/
theorem hasEffect_decodeFields (op b2 b3 : Byte) : ∃ effect, HasEffect (decodeFields op b2 b3) effect := by
  unfold decodeFields
  split
  · exact hasEffect_decodeQuarter0 _ _ _ _
  · exact hasEffect_mov _ _
  · exact ⟨_, .alu _ _⟩
  · exact hasEffect_decodeQuarter3 _ _ _ _

/-- Every instruction stands in a family. -/
theorem exists_hasEffect (i : Instr) : ∃ effect, HasEffect i effect := by
  rw [← decodeFields_opcode_operandBytes i]
  exact hasEffect_decodeFields _ _ _

/-- What an instruction that answers a next state has done: its family's effect past its own bytes, or the event of an
opcode that is not executed (40_dispatch R70). -/
theorem exec_next_cases {i : Instr} {s t : State} (h : exec i s = .next t) :
    (∃ effect, HasEffect i effect ∧ t = effect ((s.advance 1).advance (i.length - 1))) ∨
      t = (s.advance 1).raiseUnsupported i.opcode := by
  obtain ⟨effect, he⟩ := exists_hasEffect i
  rw [he.exec_eq] at h
  obtain ⟨-, ht⟩ | ⟨-, ht⟩ := perform_cases s h
  · exact .inl ⟨effect, he, ht⟩
  · exact .inr ht

/-- The opcode 0x76 is HLT's and no other's (40_dispatch R72). -/
theorem opcode_eq_hlt {i : Instr} (h : i.opcode = 0x76) : i = .hlt := by
  rw [← decodeFields_opcode_operandBytes i, h]
  rfl

/-! ## What an effect leaves unchanged

Each lemma names the families that can write its field; in every other family the field is the old one by definition. -/

theorem State.writeR_mem_of_ne (s : State) {r : R8} (hr : r ≠ .m) (v : Byte) : (s.writeR r v).mem = s.mem := by
  cases r <;> first | rfl | exact absurd rfl hr

theorem State.writePair_sp_of_ne (s : State) {rp : RegPair} (hrp : rp ≠ .sp) (v : Word) :
    (s.writePair rp v).sp = s.sp := by
  cases rp <;> first | rfl | exact absurd rfl hrp

theorem State.writeStackPair_mem (s : State) (rp : StackPair) (v : Word) : (s.writeStackPair rp v).mem = s.mem := by
  cases rp <;> rfl

theorem State.writeStackPair_outPort (s : State) (rp : StackPair) (v : Word) :
    (s.writeStackPair rp v).outPort = s.outPort := by
  cases rp <;> rfl

theorem State.writeStackPair_halted (s : State) (rp : StackPair) (v : Word) :
    (s.writeStackPair rp v).halted = s.halted := by
  cases rp <;> rfl

/-- A conditional effect keeps whatever its taken branch keeps. -/
theorem ite_keeps {α : Type} (f : State → α) {c : Bool} {s t : State} (h : f t = f s) :
    f (if c then t else s) = f s := by
  cases c
  · rfl
  · exact h

/-- Only HLT writes `halted` (10_state R27). -/
theorem HasEffect.halted_eq {i : Instr} {effect : State → State} (h : HasEffect i effect) (hi : i.opcode ≠ 0x76)
    (s : State) : (effect s).halted = s.halted := by
  cases h with
  | hlt => exact absurd rfl hi
  | mov | mvi | inr | dcr => exact State.writeR_halted ..
  | lxi | inx | dcx | dad | lhld | xthl => exact State.writePair_halted ..
  | pop => exact State.writeStackPair_halted ..
  | alu op | aluImm op => cases op <;> rfl
  | jcc | ccc | rcc => exact ite_keeps State.halted rfl
  | _ => rfl

/-- Only OUT writes the output bank (20_memory R36). -/
theorem HasEffect.outPort_eq {i : Instr} {effect : State → State} (h : HasEffect i effect) (hi : i.opcode ≠ 0xD3)
    (s : State) : (effect s).outPort = s.outPort := by
  cases h with
  | outp => exact absurd rfl hi
  | mov | mvi | inr | dcr => exact State.writeR_outPort ..
  | lxi | inx | dcx | dad | lhld | xthl => exact State.writePair_outPort ..
  | pop => exact State.writeStackPair_outPort ..
  | alu op | aluImm op => cases op <;> rfl
  | jcc | ccc | rcc => exact ite_keeps State.outPort rfl
  | _ => rfl

/-- Only the instructions of 10_state R16 write SP. -/
theorem HasEffect.sp_eq {i : Instr} {effect : State → State} (h : HasEffect i effect) (hi : i.opcode ∉ spWritingOpcodes)
    (s : State) : (effect s).sp = s.sp := by
  cases h with
  | mov | mvi | inr | dcr => exact State.writeR_sp ..
  | lxi rp | inx rp | dcx rp =>
    exact State.writePair_sp_of_ne _ (fun hrp => hi (by subst hrp; exact of_decide_eq_true rfl)) _
  | dad | lhld | xthl => exact State.writePair_sp_of_ne _ (by decide) _
  | alu op | aluImm op => cases op <;> rfl
  | jcc => exact ite_keeps State.sp rfl
  | push rp | pop rp => exact absurd (by cases rp <;> decide) hi
  | call | ret | sphl => exact absurd (of_decide_eq_true rfl) hi
  | ccc cond | rcc cond => exact absurd (by cases cond <;> exact of_decide_eq_true rfl) hi
  | _ => rfl

/-- Only the storing instructions write memory (20_memory R35). -/
theorem HasEffect.mem_eq {i : Instr} {effect : State → State} (h : HasEffect i effect) (hi : i.opcode ∉ storingOpcodes)
    (s : State) : (effect s).mem = s.mem := by
  cases h with
  | mov dst src hm =>
    refine State.writeR_mem_of_ne _ (fun hd => hi ?_) _
    subst hd
    cases src <;> first | decide | exact absurd ⟨rfl, rfl⟩ hm
  | mvi | inr | dcr => exact State.writeR_mem_of_ne _ (fun hd => hi (by subst hd; exact of_decide_eq_true rfl)) _
  | lxi | inx | dcx | dad | lhld => exact State.writePair_mem ..
  | pop => exact State.writeStackPair_mem ..
  | alu op | aluImm op => cases op <;> rfl
  | jcc | rcc => exact ite_keeps State.mem rfl
  | sta | shld | call | xthl => exact absurd (of_decide_eq_true rfl) hi
  | stax rp | push rp => exact absurd (by cases rp <;> decide) hi
  | ccc cond => exact absurd (by cases cond <;> exact of_decide_eq_true rfl) hi
  | _ => rfl

/-! ## The flags an effect writes (the table of 10_state section 3) -/

/-- What the effect of an opcode can do to the flags. -/
inductive FlagsWritten (op : Byte) (effect : State → State) : Prop where
  /-- it keeps all five -/
  | none (h : ∀ s, (effect s).flags = s.flags)
  /-- it writes at most CY, and its rule lists CY -/
  | carry (hop : ∀ b, WritesCarry b op) (h : ∀ s, (effect s).flags = { s.flags with cy := (effect s).flags.cy })
  /-- its rule lists Z, S, P, AC, and CY where `incDecWritesCarry` says so -/
  | incDec (hop : WritesResultFlags op) (hcy : WritesCarry true op)
      (h : ∀ s, s.cfg.incDecWritesCarry = false → (effect s).flags.cy = s.flags.cy)
  /-- its rule lists all five -/
  | all (hop : WritesResultFlags op) (hcy : ∀ b, WritesCarry b op)

theorem FlagsWritten.all_of {op : Byte} {effect : State → State} (hop : WritesResultFlags op)
    (h : op.toNat < 0x40 → op = 0x27) : FlagsWritten op effect :=
  .all hop fun _ => .inl ⟨hop, fun hlt => .inl (h hlt)⟩

theorem FlagsWritten.carry_of_mem {op : Byte} {effect : State → State}
    (hop : op ∈ [(0x07 : Byte), 0x0F, 0x17, 0x1F, 0x09, 0x19, 0x29, 0x39, 0x37, 0x3F])
    (h : ∀ s, (effect s).flags = { s.flags with cy := (effect s).flags.cy }) : FlagsWritten op effect :=
  .carry (fun _ => .inr hop) h

theorem FlagsWritten.incDec_of {op : Byte} {effect : State → State} (hop : WritesResultFlags op)
    (h : ∀ s, s.cfg.incDecWritesCarry = false → (effect s).flags.cy = s.flags.cy) : FlagsWritten op effect :=
  .incDec hop (.inl ⟨hop, fun _ => .inr rfl⟩) h

theorem incFlags_cy (cfg : Config) (f : Flags) (v : Byte) (h : cfg.incDecWritesCarry = false) :
    (incFlags cfg f v).cy = f.cy := by
  simp [incFlags, h]

theorem decFlags_cy (cfg : Config) (f : Flags) (v : Byte) (h : cfg.incDecWritesCarry = false) :
    (decFlags cfg f v).cy = f.cy := by
  simp [decFlags, h]

/-- The opcodes 10 ALU SSS. -/
theorem alu_opcode_range (op : AluOp) (src : R8) :
    0x80 ≤ (Instr.alu op src).opcode.toNat ∧ (Instr.alu op src).opcode.toNat < 0xC0 := by
  cases op <;> cases src <;> decide

/-- The opcodes 11 ALU 110. -/
theorem aluImm_opcode_fields (op : AluOp) (d8 : Byte) :
    0xC0 ≤ (Instr.aluImm d8 op).opcode.toNat ∧ (Instr.aluImm d8 op).opcode.toNat % 8 = 6 := by
  have ho : (Instr.aluImm d8 op).opcode = opcodeOfFields 3 op.code 6 := by cases op <;> rfl
  rw [ho]
  cases op <;> decide

/-- The opcodes 00 DDD 100. -/
theorem inr_opcode_fields (dst : R8) :
    (Instr.inr dst).opcode.toNat < 0x40 ∧ (Instr.inr dst).opcode.toNat % 8 = 4 := by
  cases dst <;> decide

/-- The opcodes 00 DDD 101. -/
theorem dcr_opcode_fields (dst : R8) :
    (Instr.dcr dst).opcode.toNat < 0x40 ∧ (Instr.dcr dst).opcode.toNat % 8 = 5 := by
  cases dst <;> decide

theorem State.writeStackPair_flags_of_ne (s : State) {rp : StackPair} (hrp : rp ≠ .psw) (v : Word) :
    (s.writeStackPair rp v).flags = s.flags := by
  cases rp <;> first | rfl | exact absurd rfl hrp

/-- What each family does to the flags. -/
theorem HasEffect.flagsWritten {i : Instr} {effect : State → State} (h : HasEffect i effect) :
    FlagsWritten i.opcode effect := by
  cases h with
  | alu op src =>
    obtain ⟨hlo, hhi⟩ := alu_opcode_range op src
    exact .all_of (.inl ⟨hlo, hhi⟩) (fun hlt => by omega)
  | aluImm op d8 =>
    obtain ⟨hlo, hlow⟩ := aluImm_opcode_fields op d8
    exact .all_of (.inr (.inl ⟨hlo, hlow⟩)) (fun hlt => by omega)
  | daa => exact .all_of (.inr (.inr (.inr (.inl rfl)))) (fun _ => rfl)
  | inr dst =>
    obtain ⟨hlt, hlow⟩ := inr_opcode_fields dst
    exact .incDec_of (.inr (.inr (.inl ⟨hlt, .inl hlow⟩))) fun s hs => incFlags_cy _ _ _ hs
  | dcr dst =>
    obtain ⟨hlt, hlow⟩ := dcr_opcode_fields dst
    exact .incDec_of (.inr (.inr (.inl ⟨hlt, .inr hlow⟩))) fun s hs => decFlags_cy _ _ _ hs
  | dad rp => exact .carry_of_mem (by cases rp <;> decide) fun _ => rfl
  | rlc | rrc | ral | rar | stc | cmc => exact .carry_of_mem (by decide) fun _ => rfl
  | pop rp =>
    by_cases hrp : rp = .psw
    · subst hrp
      exact .all_of (.inr (.inr (.inr (.inr rfl)))) (fun hlt => absurd hlt (by decide))
    · exact .none fun s => State.writeStackPair_flags_of_ne _ hrp _
  | mov | mvi => exact .none fun s => State.writeR_flags ..
  | lxi | inx | dcx | lhld | xthl => exact .none fun s => State.writePair_flags ..
  | jcc | ccc | rcc => exact .none fun s => ite_keeps State.flags rfl
  | _ => exact .none fun _ => rfl

/-- The four flags of a result keep their value unless the opcode's rule lists them. -/
theorem FlagsWritten.zspa_eq {op : Byte} {effect : State → State} (h : FlagsWritten op effect)
    (hop : ¬ WritesResultFlags op) (s : State) :
    (effect s).flags.z = s.flags.z ∧ (effect s).flags.s = s.flags.s ∧ (effect s).flags.p = s.flags.p ∧
      (effect s).flags.ac = s.flags.ac := by
  cases h with
  | none h => rw [h]; exact ⟨rfl, rfl, rfl, rfl⟩
  | carry _ h => rw [h]; exact ⟨rfl, rfl, rfl, rfl⟩
  | incDec hres => exact absurd hres hop
  | all hres => exact absurd hres hop

/-- CY keeps its value unless the opcode's rule lists it. -/
theorem FlagsWritten.cy_eq {op : Byte} {effect : State → State} (h : FlagsWritten op effect) (s : State)
    (hop : ¬ WritesCarry s.cfg.incDecWritesCarry op) : (effect s).flags.cy = s.flags.cy := by
  cases h with
  | none h => rw [h]
  | carry hcy => exact absurd (hcy _) hop
  | incDec _ hcy h =>
    refine h s (Bool.eq_false_iff.mpr fun hb => hop ?_)
    rwa [hb]
  | all _ hcy => exact absurd (hcy _) hop

/-! ## Runs that differ in what instructions do not read -/

/-- `t` is `s` but for the output bank, the controller's state, the break latch, `halted` and the events. -/
def SameCore (s t : State) : Prop :=
  t = { s with
    outPort := t.outPort, ctrl := t.ctrl, breakPending := t.breakPending, halted := t.halted, events := t.events }

/-- `t` is `s` with another input bank. -/
def SameButInPort (bank : Memory) (s t : State) : Prop := t = { s with inPort := bank }

/-- A conditional effect keeps a relation that both its branches keep. -/
theorem ite_related {R : State → State → Prop} {c : Bool} {s s' t t' : State} (ht : R t t') (hs : R s s') :
    R (if c then t else s) (if c then t' else s') := by
  cases c
  · exact hs
  · exact ht

/-- If two states stand in a relation that the fetch, an event and the effect keep, then so do their next states. -/
theorem perform_related {R : State → State → Prop} {i : Instr} {effect : State → State} {s s' t : State}
    (hcfg : s'.cfg = s.cfg) (hrel : R s s') (hadv : ∀ {s s'} n, R s s' → R (s.advance n) (s'.advance n))
    (hemit : ∀ {s s'} e, R s s' → R (s.emit e) (s'.emit e)) (heff : ∀ {s s'}, R s s' → R (effect s) (effect s'))
    (h : perform i effect s = .next t) : ∃ t', perform i effect s' = .next t' ∧ R t t' := by
  obtain ⟨ha, rfl⟩ | ⟨ha, rfl⟩ := perform_cases s h
  · exact ⟨_, perform_execute s' (hcfg ▸ ha), heff (hadv _ (hadv _ hrel))⟩
  · exact ⟨_, perform_raise s' (hcfg ▸ ha), hemit _ (hadv _ hrel)⟩

/-- No effect reads the output bank, the controller, `halted` or the events. -/
theorem HasEffect.sameCore {i : Instr} {effect : State → State} (h : HasEffect i effect) {s t : State}
    (hst : SameCore s t) : SameCore (effect s) (effect t) := by
  unfold SameCore at hst
  rw [hst]
  cases h with
  | mov dst src => cases dst <;> cases src <;> rfl
  | alu op src => cases op <;> cases src <;> rfl
  | aluImm op => cases op <;> rfl
  | mvi r | inr r | dcr r => cases r <;> rfl
  | lxi rp | inx rp | dcx rp | dad rp | ldax rp | stax rp | push rp | pop rp => cases rp <;> rfl
  | jcc | ccc | rcc => exact ite_related rfl rfl
  | _ => rfl

/-- No effect but IN's reads the input bank. -/
theorem HasEffect.sameButInPort {i : Instr} {effect : State → State} (h : HasEffect i effect)
    (hi : ∀ n, i ≠ .inp n) {bank : Memory} {s t : State}
    (hst : SameButInPort bank s t) : SameButInPort bank (effect s) (effect t) := by
  unfold SameButInPort at hst
  rw [hst]
  cases h with
  | inp n => exact absurd rfl (hi n)
  | mov dst src => cases dst <;> cases src <;> rfl
  | alu op src => cases op <;> cases src <;> rfl
  | aluImm op => cases op <;> rfl
  | mvi r | inr r | dcr r => cases r <;> rfl
  | lxi rp | inx rp | dcx rp | dad rp | ldax rp | stax rp | push rp | pop rp => cases rp <;> rfl
  | jcc | ccc | rcc => exact ite_related rfl rfl
  | _ => rfl

/-! ## The invariant -/

/-- An instruction other than HLT keeps `halted`. -/
theorem exec_halted_of_ne {i : Instr} {s t : State} (h : exec i s = .next t) (hi : i.opcode ≠ 0x76) :
    t.halted = s.halted := by
  obtain ⟨effect, he, rfl⟩ | rfl := exec_next_cases h
  · exact he.halted_eq hi _
  · rfl

/-- HLT sets `halted`. -/
theorem exec_halted_of_hlt {i : Instr} {s t : State} (h : exec i s = .next t) (hi : i.opcode = 0x76) :
    t.halted = true := by
  obtain rfl := opcode_eq_hlt hi
  rw [exec_hlt] at h
  cases h
  rfl

/-- The controller is HALTED after an instruction exactly where its opcode was 0x76 (40_dispatch R72, 60_exceptions R175). -/
theorem ctrlAfter_eq_halted_iff (cfg : Config) (m : Mode) (i : Instr) :
    ctrlAfter cfg m i = .halted ↔ i.opcode = 0x76 := by
  by_cases hi : i.opcode = 0x76
  · simp only [ctrlAfter, continueSignal, hi, if_true]
  · simp only [ctrlAfter, continueSignal, hi, if_false, iff_false]
    cases m with
    | step => simp
    | run => cases raisesUnsupported cfg i <;> simp

/-- An instruction run in RUNNING with no break pending keeps the invariant. -/
theorem inv_executeOne {m : Mode} {s t : State} (hs : s.Inv) (hc : s.ctrl = .running m) (hb : s.breakPending = false)
    (h : executeOne m s = .next t) : t.Inv := by
  obtain ⟨hmem, hin, hout, hhalt, -⟩ := hs
  have hrun : s.halted = false := by simpa [hc] using hhalt
  obtain ⟨u, hu, he⟩ | ⟨r, -, he⟩ := executeOne_cases m s
  · obtain rfl : { u with ctrl := ctrlAfter u.cfg m s.fetchInstr } = t := by simpa [he] using h
    have hk := exec_keeps hu
    refine ⟨hk.memWf hmem, hk.inPort ▸ hin, hk.outWf hout, ?_, fun hbu => ?_⟩
    · rw [ctrlAfter_eq_halted_iff]
      by_cases hi : s.fetchInstr.opcode = 0x76
      · have hu : u.halted = true := exec_halted_of_hlt hu hi
        exact iff_of_true hu hi
      · have hu : u.halted = false := (exec_halted_of_ne hu hi).trans hrun
        exact iff_of_false (Bool.eq_false_iff.mp hu) hi
    · have hbs : s.breakPending = true := hk.breakPending.symm.trans hbu
      rw [hb] at hbs
      cases hbs
  · rw [he] at h
    cases h

/-- In step mode the invariant rules a pending break out; in run mode the controller has looked before it runs. -/
theorem breakPending_eq_false {m : Mode} {s : State} (hs : s.Inv) (hc : s.ctrl = .running m)
    (hb : m = .run → s.breakPending = false) : s.breakPending = false := by
  obtain ⟨-, -, -, -, hbreak⟩ := hs
  cases m with
  | run => exact hb rfl
  | step =>
    rw [Bool.eq_false_iff]
    intro h
    cases hc.symm.trans (hbreak h)

theorem inv_controllerStep {s t : State} (hs : s.Inv) (h : controllerStep s = .next t) : t.Inv := by
  obtain ⟨m, hc, hb, he⟩ | ⟨hc, -, he⟩ | ⟨-, he⟩ := controllerStep_cases s
  · exact inv_executeOne hs hc (breakPending_eq_false hs hc hb) (he ▸ h)
  · obtain ⟨hmem, hin, hout, hhalt, -⟩ := hs
    rw [he] at h
    cases h
    exact ⟨hmem, hin, hout, by simpa [hc] using hhalt, fun hb => nomatch hb⟩
  · rw [he] at h
    cases h
    exact hs

theorem inv_writeByte {s : State} (hs : s.Inv) (a : Word) (v : Byte) : (s.writeByte a v).Inv := by
  obtain ⟨hmem, hrest⟩ := hs
  exact ⟨Memory.wf_write hmem a v, hrest⟩

theorem inv_loadBytes {s : State} (hs : s.Inv) (address : Nat) (bytes : List Byte) : (s.loadBytes address bytes).Inv := by
  induction bytes generalizing s address with
  | nil => exact hs
  | cons v rest ih => exact ih (inv_writeByte hs _ v) (address + 1)

theorem inv_setInputPort {s : State} (hs : s.Inv) (port : Nat) (value : Byte) : (s.setInputPort port value).Inv := by
  obtain ⟨hmem, hin, hrest⟩ := hs
  exact ⟨hmem, Memory.wfBelow_write hin (Nat.mod_lt port (by decide)) value, hrest⟩

theorem inv_restore {s : State} (hs : s.Inv) (image : List Nat) : (s.restore image).Inv := by
  obtain ⟨-, hrest⟩ := hs
  exact ⟨wf_restoredMemory image, hrest⟩

/-- A request that puts the controller in RUNNING from READY or PAUSED: nothing is halted and no break is pending. -/
theorem inv_startRunning {s : State} (hs : s.Inv) (hc : s.ctrl = .ready ∨ s.ctrl = .paused) (m : Mode) :
    State.Inv { s with ctrl := .running m } := by
  obtain ⟨hmem, hin, hout, hhalt, hbreak⟩ := hs
  refine ⟨hmem, hin, hout, ?_, fun hb => ?_⟩
  · rcases hc with hc | hc <;> simpa [hc] using hhalt
  · rcases hc with hc | hc <;> cases hc.symm.trans (hbreak hb)

theorem inv_requestRun {s : State} (hs : s.Inv) : s.requestRun.Inv := by
  unfold State.requestRun
  split
  · next hc => exact inv_startRunning hs (.inl hc) .run
  · next hc => exact inv_startRunning hs (.inr hc) .run
  all_goals exact hs

theorem inv_requestStep {s : State} (hs : s.Inv) : s.requestStep.Inv := by
  unfold State.requestStep
  split
  · next hc => exact inv_startRunning hs (.inl hc) .step
  · next hc => exact inv_startRunning hs (.inr hc) .step
  all_goals exact hs

theorem inv_requestBreak {s : State} (hs : s.Inv) : s.requestBreak.Inv := by
  unfold State.requestBreak
  split
  · next hc =>
    obtain ⟨hmem, hin, hout, hhalt, -⟩ := hs
    exact ⟨hmem, hin, hout, hhalt, fun _ => hc⟩
  all_goals exact hs

/-- The machine after creation meets the invariant, whatever the preload. -/
theorem inv_resetWith (cfg : Config) : (State.resetWith cfg).Inv := by
  obtain ⟨-, hrest⟩ : State.reset.Inv := by decide
  exact ⟨wf_resetMemory cfg, hrest⟩

theorem inv_requestReset (s : State) : s.requestReset.Inv := inv_resetWith s.cfg

/-- An edit keeps the invariant if the edited state meets it. -/
theorem inv_hostEdit {move : HostMove} {edited s t : State} (he : edited.Inv) (h : hostEdit move edited s = .next t) :
    t.Inv := by
  obtain ⟨-, hn⟩ | ⟨-, hr⟩ := hostEdit_cases move edited s
  · rw [hn] at h
    cases h
    exact he
  · rw [hr] at h
    cases h

theorem inv_hostMove {move : HostMove} {s t : State} (hs : s.Inv) (h : hostMove move s = .next t) : t.Inv := by
  cases move with
  | proceed => exact inv_controllerStep hs h
  | load bytes address => exact inv_hostEdit (inv_loadBytes hs address bytes) h
  | poke address value => exact inv_hostEdit (inv_writeByte hs _ value) h
  | setPc address => exact inv_hostEdit (edited := s.hostSetPc address) hs h
  | setInputPort port value => exact inv_hostEdit (inv_setInputPort hs port value) h
  | restore image => exact inv_hostEdit (inv_restore hs image) h
  | requestRun => cases h; exact inv_requestRun hs
  | requestStep => cases h; exact inv_requestStep hs
  | requestBreak => cases h; exact inv_requestBreak hs
  | requestReset => cases h; exact inv_requestReset s
  | receiveEvents => cases h; exact hs

theorem inv_step {s t : State} (hs : s.Inv) (h : step s = .next t) : t.Inv := by
  cases hm : s.hostMoves with
  | nil => exact inv_controllerStep hs (step_nil hm ▸ h)
  | cons move moves =>
    rw [step_cons hm] at h
    exact inv_hostMove (s := { s with hostMoves := moves }) hs h

/-- Settles O54: each of the controller's and the host's moves keeps the invariant. -/
theorem everyStepKeepsTheInvariant : Obligations.EveryStepKeepsTheInvariant :=
  fun _ _ hs h => inv_step hs h

/-- Settles O53: every preload, restored or refused, gives a canonical memory. -/
theorem invariantAtReset : Obligations.InvariantAtReset :=
  ⟨inv_resetWith .default, inv_resetWith⟩

/-! ## Statements over all instructions -/

/-- Settles O49, by the families' lists of written flags. -/
theorem unlistedFlagsKeepTheirValue : Obligations.UnlistedFlagsKeepTheirValue := by
  intro i s t h
  obtain ⟨effect, he, rfl⟩ | rfl := exec_next_cases h
  · exact ⟨fun hop => he.flagsWritten.zspa_eq hop _, fun hop => he.flagsWritten.cy_eq _ hop⟩
  · exact ⟨fun _ => ⟨rfl, rfl, rfl, rfl⟩, fun _ => rfl⟩

/-- Settles O50: what each family leaves unchanged, and what every instruction keeps. -/
theorem onlyListedInstructionsChangeState : Obligations.OnlyListedInstructionsChangeState := by
  intro i s t h
  have hk := exec_keeps h
  have hwritten : (i.opcode ∉ storingOpcodes → t.mem = s.mem) ∧ (i.opcode ∉ spWritingOpcodes → t.sp = s.sp) ∧
      (i.opcode ≠ 0xD3 → t.outPort = s.outPort) := by
    obtain ⟨effect, he, rfl⟩ | rfl := exec_next_cases h
    · exact ⟨fun hi => he.mem_eq hi _, fun hi => he.sp_eq hi _, fun hi => he.outPort_eq hi _⟩
    · exact ⟨fun _ => rfl, fun _ => rfl, fun _ => rfl⟩
  obtain ⟨hmem, hsp, hout⟩ := hwritten
  exact ⟨hmem, hsp, hout, exec_halted_of_ne h, hk.inPort, hk.ctrl, hk.breakPending, hk.cfg, hk.hostMoves⟩

theorem exec_sameButInPort {i : Instr} (hi : ∀ n, i ≠ .inp n) (bank : Memory) {s t : State} (h : exec i s = .next t) :
    exec i { s with inPort := bank } = .next { t with inPort := bank } := by
  obtain ⟨effect, he⟩ := exists_hasEffect i
  rw [he.exec_eq] at h ⊢
  obtain ⟨t', ht', rfl⟩ := perform_related (R := SameButInPort bank) (s := s) (s' := { s with inPort := bank }) rfl rfl
    (fun n hst => by rw [hst]; rfl) (fun e hst => by rw [hst]; rfl) (he.sameButInPort hi) h
  exact ht'

theorem exec_sameCore {i : Instr} {s s' t : State} (hs : SameCore s s') (h : exec i s = .next t) :
    ∃ t', exec i s' = .next t' ∧ SameCore t t' := by
  obtain ⟨effect, he⟩ := exists_hasEffect i
  simp only [he.exec_eq] at h ⊢
  exact perform_related (R := SameCore) (by rw [hs]) hs (fun n hst => by rw [hst]; rfl) (fun e hst => by rw [hst]; rfl)
    he.sameCore h

/-- Settles O52: two runs that differ in what is not read stay alike in what an instruction computes. -/
theorem portsAndControllerAreNotRead : Obligations.PortsAndControllerAreNotRead := by
  intro i s t h
  refine ⟨fun bank hi => exec_sameButInPort hi bank h, fun bank c brk hlt es => ?_⟩
  obtain ⟨u, hu, htu⟩ := exec_sameCore (s' := { s with
    outPort := bank, ctrl := c, breakPending := brk, halted := hlt, events := es }) rfl h
  refine ⟨u, hu, ?_⟩
  rw [htu]
  exact ⟨rfl, rfl, rfl, rfl, rfl, rfl, rfl, rfl⟩

/-! ## Reset -/

theorem imageValid_iff (image : List Nat) : imageValid image = true ↔ image.length = 65536 ∧ ∀ n ∈ image, n < 256 := by
  simp [imageValid]

/-- A well-formed image is what memory holds after its restore (20_memory R53). -/
theorem read_restoredMemory {image : List Nat} (hlen : image.length = 65536) (hall : ∀ n ∈ image, n < 256) (a : Word) :
    ((restoredMemory image).read a.toNat).toNat = image.getD a.toNat 0 := by
  have ha : a.toNat < image.length := hlen ▸ a.isLt
  have hn : image.getD a.toNat 0 < 256 := by
    rw [List.getD_eq_getElem _ _ ha]
    exact hall _ (List.getElem_mem ha)
  rw [restoredMemory, if_pos ((imageValid_iff image).2 ⟨hlen, hall⟩), read_cellsFrom _ _ _ (Nat.zero_le _),
    BitVec.toNat_ofNat, Nat.sub_zero, Nat.mod_eq_of_lt hn]

/-- A malformed image leaves memory all zero (20_memory R53). -/
theorem restoredMemory_of_malformed {image : List Nat} (h : ¬ (image.length = 65536 ∧ ∀ n ∈ image, n < 256)) :
    restoredMemory image = [] :=
  if_neg (fun hv => h ((imageValid_iff image).1 hv))

theorem resetMemory_none {cfg : Config} (h : cfg.resetMemoryImage = none) : resetMemory cfg = [] := by
  rw [resetMemory, h]

theorem resetMemory_some {cfg : Config} {image : List Nat} (h : cfg.resetMemoryImage = some image) :
    resetMemory cfg = restoredMemory image := by
  rw [resetMemory, h]

/-- Settles O58: the reset state, with the memory of each kind of preload. -/
theorem resetResult : Obligations.ResetResult := by
  intro s moves
  refine ⟨State.requestReset { s with hostMoves := moves }, rfl, rfl, fun h => resetMemory_none h,
    fun image h hlen hall a => ?_, fun image h hbad => ?_⟩
  · refine Eq.trans ?_ (read_restoredMemory hlen hall a)
    exact congrArg (fun m => (Memory.read m a.toNat).toNat) (resetMemory_some h)
  · exact (resetMemory_some h).trans (restoredMemory_of_malformed hbad)

/-! ## Pairs and the flag byte -/

/-- Settles O7: the two halves of the word are the two registers. -/
theorem registerPairsAreViews : Obligations.RegisterPairsAreViews := by
  intro s v
  exact ⟨ofBytes_toNat _ _, ofBytes_toNat _ _, ofBytes_toNat _ _, rfl, rfl,
    ⟨hiByte v, loByte v, hiByte_toNat v, loByte_toNat v, rfl, rfl, rfl⟩, ofBytes_toNat _ _, rfl, rfl, rfl⟩

/-- A bit of a byte, read off the byte's number. -/
theorem getLsbD_eq_of_toNat {r : Byte} {k : Nat} {b : Bool} (h : r.toNat / 2 ^ k % 2 = b.toNat) : r.getLsbD k = b := by
  rw [← Bool.ofNat_toNat b, ← h, ← getLsbD_toNat, Bool.ofNat_toNat]

/-- The bits of the flag byte, from bit 7 down (10_state R24). -/
theorem flagByte_bits (cfg : Config) (f : Flags) :
    (flagByte cfg f).getLsbD 7 = f.s ∧ (flagByte cfg f).getLsbD 6 = f.z ∧ (flagByte cfg f).getLsbD 5 = cfg.fill5 ∧
    (flagByte cfg f).getLsbD 4 = f.ac ∧ (flagByte cfg f).getLsbD 3 = cfg.fill3 ∧ (flagByte cfg f).getLsbD 2 = f.p ∧
    (flagByte cfg f).getLsbD 1 = cfg.fill1 ∧ (flagByte cfg f).getLsbD 0 = f.cy := by
  have hs := f.s.toNat_le
  have hz := f.z.toNat_le
  have h5 := cfg.fill5.toNat_le
  have hac := f.ac.toNat_le
  have h3 := cfg.fill3.toNat_le
  have hp := f.p.toNat_le
  have h1 := cfg.fill1.toNat_le
  have hcy := f.cy.toNat_le
  refine ⟨?_, ?_, ?_, ?_, ?_, ?_, ?_, ?_⟩ <;>
    (refine getLsbD_eq_of_toNat ?_; rw [flagByte_toNat]; omega)

theorem flagsOfByte_flagByte (cfg : Config) (f : Flags) : flagsOfByte (flagByte cfg f) = f := by
  obtain ⟨hs, hz, -, hac, -, hp, -, hcy⟩ := flagByte_bits cfg f
  simp only [flagsOfByte, hs, hz, hac, hp, hcy]

/-- Settles O8: the flag byte is a sum of distinct powers of two, so each bit is its own flag or fill bit. -/
theorem flagByteLayout : Obligations.FlagByteLayout := by
  intro cfg f b
  obtain ⟨hs, hz, h5, hac, h3, hp, h1, hcy⟩ := flagByte_bits cfg f
  exact ⟨hs, hz, h5, hac, h3, hp, h1, hcy, rfl, flagsOfByte_flagByte cfg f⟩

end Sys2Proof.Machine
end

section
/-! Proofs about memory: bytes and words, the one canonical form of each memory, and the host's edits (20_memory R35 to R42,
R47, R52, R53; 60_exceptions R180, R181). -/

namespace Sys2Proof.Machine

/-! ## Bytes and words -/

/-- A word reads back where it was written, the wrap at 0xFFFF included (20_memory R38, R39). -/
@[simp] theorem State.readWord_writeWord (s : State) (a v : Word) : (s.writeWord a v).readWord a = v := by
  rw [State.readWord, State.readByte_writeWord, State.readByte_writeWord, if_pos rfl, if_neg (word_ne_add_one a),
    if_pos rfl, ofBytes_hiByte_loByte]

/-- Settles O9: a read after a write, by the byte or by the word; the address after 0xFFFF is 0x0000. -/
theorem memoryBytesAndWords : Obligations.MemoryBytesAndWords := by
  intro s a v b
  have hwrap : (0xFFFF : Word) + 1 = 0x0000 := by decide
  refine ⟨storedByte_writeByte s a b, storedWord_writeWord s a v, readWord_toNat s a, s.readWord_writeWord a v, ?_, ?_⟩
  · rw [State.readByte_writeWord, if_neg (word_ne_add_one _), if_pos rfl]
  · rw [State.readByte_writeWord, hwrap, if_pos rfl]

/-! ## The canonical form is unique -/

/-- A list in canonical form holds exactly the cells that read as something else than an unlisted key. -/
theorem Memory.mem_iff_read {bound : Nat} {m : Memory} (hm : Memory.wfBelow bound m) (k : Nat) (v : Byte) :
    (k, v) ∈ m ↔ v ≠ 0 ∧ m.read k = v := by
  obtain ⟨hsorted, hcells⟩ := hm
  induction m with
  | nil => exact iff_of_false List.not_mem_nil (fun ⟨hv, h⟩ => hv h.symm)
  | cons c rest ih =>
    obtain ⟨k', v'⟩ := c
    rw [List.pairwise_cons] at hsorted
    obtain ⟨hfirst, hrest⟩ := hsorted
    have ih := ih hrest (fun x hx => hcells x (List.mem_cons_of_mem _ hx))
    have hv' : v' ≠ 0 := (hcells (k', v') List.mem_cons_self).2
    rw [List.mem_cons, Memory.read_cons, Prod.mk.injEq]
    by_cases hk : k' = k
    · subst hk
      have hnotin : (k', v) ∉ rest := fun h => Nat.lt_irrefl k' (hfirst (k', v) h)
      rw [if_pos rfl]
      constructor
      · rintro (⟨-, rfl⟩ | h)
        · exact ⟨hv', rfl⟩
        · exact absurd h hnotin
      · exact fun ⟨_, h⟩ => .inl ⟨rfl, h.symm⟩
    · rw [if_neg hk, ← ih]
      exact or_iff_right (fun h => hk h.1.symm)

/-- Two lists in canonical form with the same byte at each key below the bound are the same list. -/
theorem Memory.eq_of_read_eq {bound : Nat} {m n : Memory} (hm : Memory.wfBelow bound m) (hn : Memory.wfBelow bound n)
    (h : ∀ k < bound, m.read k = n.read k) : m = n := by
  have hasymm : Std.Asymm (fun x y : Host.Cell => x.1 < y.1) := ⟨fun _ _ => Nat.lt_asymm⟩
  refine hm.1.eq_of_mem_iff hn.1 (fun ⟨k, v⟩ => ⟨fun hc => ?_, fun hc => ?_⟩)
  · rwa [Memory.mem_iff_read hn, ← h k (hm.2 _ hc).1, ← Memory.mem_iff_read hm]
  · rwa [Memory.mem_iff_read hm, h k (hn.2 _ hc).1, ← Memory.mem_iff_read hn]

/-- Settles O10: memories in canonical form are lists of the same cells in the same order. -/
theorem canonicalMemoryIsUnique : Obligations.CanonicalMemoryIsUnique :=
  fun _ _ hm hn h => Memory.eq_of_read_eq hm hn (fun k hk => by
    simpa [Nat.mod_eq_of_lt hk] using h (BitVec.ofNat 16 k))

/-! ## The host's edits -/

@[simp] theorem State.readInPort_setInputPort (s : State) (port : Nat) (value x : Byte) :
    (s.setInputPort port value).readInPort x = if x = BitVec.ofNat 8 port then value else s.readInPort x := by
  have hkey : x.toNat = port % 256 ↔ x = BitVec.ofNat 8 port := by
    rw [← BitVec.toNat_inj, BitVec.toNat_ofNat]
  simp only [State.readInPort, State.setInputPort, Memory.read_write, hkey]

/-- A load changes memory and nothing else. -/
theorem State.loadBytes_eq (s : State) (address : Nat) (bytes : List Byte) :
    s.loadBytes address bytes = { s with mem := (s.loadBytes address bytes).mem } := by
  induction bytes generalizing s address with
  | nil => rfl
  | cons v rest ih => exact ih (s.writeByte (BitVec.ofNat 16 address) v) (address + 1)

/-- A byte at none of the addresses of a load stays (20_memory R42). -/
theorem State.readByte_loadBytes_of_ne (s : State) (address : Nat) (bytes : List Byte) {x : Word}
    (hx : ∀ k, k < bytes.length → x ≠ BitVec.ofNat 16 (address + k)) :
    (s.loadBytes address bytes).readByte x = s.readByte x := by
  induction bytes generalizing s address with
  | nil => rfl
  | cons v rest ih =>
    have hfirst : x ≠ BitVec.ofNat 16 address := hx 0 (Nat.succ_pos _)
    have hrest : ∀ k, k < rest.length → x ≠ BitVec.ofNat 16 (address + 1 + k) := fun k hk => by
      rw [Nat.add_right_comm]
      exact hx (k + 1) (Nat.succ_lt_succ hk)
    rw [State.loadBytes, ih _ _ hrest, State.readByte_writeByte, if_neg hfirst]

/-- Of the bytes that a load puts at one address the last one stays (20_memory R52, decision D15). -/
theorem State.readByte_loadBytes_of_last (s : State) (address : Nat) (bytes : List Byte) {k : Nat}
    (hk : k < bytes.length)
    (hlast : ∀ j, k < j → j < bytes.length → BitVec.ofNat 16 (address + j) ≠ BitVec.ofNat 16 (address + k)) :
    (s.loadBytes address bytes).readByte (BitVec.ofNat 16 (address + k)) = bytes[k] := by
  induction bytes generalizing s address k with
  | nil => exact absurd hk (Nat.not_lt_zero k)
  | cons v rest ih =>
    rw [State.loadBytes]
    cases k with
    | zero =>
      simp only [Nat.add_zero] at hlast ⊢
      have hrest : ∀ j, j < rest.length → BitVec.ofNat 16 address ≠ BitVec.ofNat 16 (address + 1 + j) :=
        fun j hj => by
          rw [Nat.add_right_comm]
          exact (hlast (j + 1) (Nat.succ_pos j) (Nat.succ_lt_succ hj)).symm
      rw [State.readByte_loadBytes_of_ne _ _ _ hrest, State.readByte_writeByte, if_pos rfl]
      rfl
    | succ k =>
      rw [← Nat.add_assoc, Nat.add_right_comm]
      refine ih _ _ (Nat.lt_of_succ_lt_succ hk) (fun j hkj hj => ?_)
      rw [Nat.add_right_comm address 1 j, Nat.add_right_comm address 1 k]
      exact hlast (j + 1) (Nat.succ_lt_succ hkj) (Nat.succ_lt_succ hj)

/-- Outside RUNNING a step that takes an edit completes with the edited state (60_exceptions R180). -/
theorem step_edit {s : State} (hs : ∀ m, s.ctrl ≠ .running m) (moves : List HostMove) {move : HostMove} {edited : State}
    (hmove : hostMove move { s with hostMoves := moves } = hostEdit move edited { s with hostMoves := moves }) :
    step { s with hostMoves := move :: moves } = .next edited := by
  rw [step_cons rfl]
  exact hmove.trans (if_pos ((notRunning_iff s).2 hs))

/-- Settles O59: each edit is made outside RUNNING, and what it reads as after it is the law of its operation. -/
theorem hostEditsWhileNotRunning : Obligations.HostEditsWhileNotRunning := by
  intro s moves address value bytes image hs
  refine ⟨⟨_, step_edit hs moves rfl, rfl, ?_⟩,
    ⟨_, step_edit hs moves rfl, ?_, fun k hk hlast => ?_, fun x hx => ?_⟩,
    step_edit hs moves rfl,
    ⟨_, step_edit hs moves rfl, rfl, ?_, fun k hk => ?_⟩,
    ⟨_, step_edit hs moves rfl, rfl, fun hlen hall a => ?_, fun hbad a => ?_⟩⟩
  · exact storedByte_writeByte { s with hostMoves := moves } _ value
  · exact State.loadBytes_eq _ address bytes
  · exact State.readByte_loadBytes_of_last _ address bytes hk hlast
  · exact State.readByte_loadBytes_of_ne { s with hostMoves := moves } address bytes hx
  · rw [State.readInPort_setInputPort, if_pos rfl]
  · rw [State.readInPort_setInputPort, if_neg hk]
    rfl
  · exact read_restoredMemory hlen hall a
  · exact congrArg (fun m => Memory.read m a.toNat) (restoredMemory_of_malformed hbad)

end Sys2Proof.Machine
end

section
/-! Proofs about the encoding (30_encoding R55 to R68): the decoder and the encoder undo each other in both directions, and the
opcode lists of the rules agree with the lengths and tiers that the model reads from the opcode's fields. -/

namespace Sys2Proof.Machine

/-! ## The bytes of what the decoder reads

The decoder reads the fields of the opcode byte, the encoder lists opcode values. They meet in one law: the encoding of what
the decoder reads is the opcode byte, and then as many of the operand bytes as that opcode takes. The map has four quarters
of 64 slots (30_encoding R63), and in each the law is the comparison, slot by slot, of the fields with the opcode table. -/

/-- An opcode and those of the two bytes after it that it takes (30_encoding R55, R56). -/
def takenBytes (op b2 b3 : Byte) : List Byte := op :: [b2, b3].take (opcodeLength op - 1)

theorem encode_decodeQuarter0 {mid low : Nat} (hmid : mid < 8) (hlow : low < 8) (d16 : Word) :
    encode (decodeQuarter0 mid low (loByte d16) d16) =
      takenBytes (opcodeOfFields 0 mid low) (loByte d16) (hiByte d16) := by
  interval_cases low <;> interval_cases mid <;> rfl

theorem encode_mov {mid low : Nat} (hmid : mid < 8) (hlow : low < 8) (b2 b3 : Byte) :
    encode (Instr.mov (.ofCode mid) (.ofCode low)) = takenBytes (opcodeOfFields 1 mid low) b2 b3 := by
  interval_cases low <;> interval_cases mid <;> rfl

theorem encode_alu {mid low : Nat} (hmid : mid < 8) (hlow : low < 8) (b2 b3 : Byte) :
    encode (Instr.alu (.ofCode mid) (.ofCode low)) = takenBytes (opcodeOfFields 2 mid low) b2 b3 := by
  interval_cases low <;> interval_cases mid <;> rfl

theorem encode_decodeQuarter3 {mid low : Nat} (hmid : mid < 8) (hlow : low < 8) (d16 : Word) :
    encode (decodeQuarter3 mid low (loByte d16) d16) =
      takenBytes (opcodeOfFields 3 mid low) (loByte d16) (hiByte d16) := by
  interval_cases low <;> interval_cases mid <;> rfl

theorem topField_lt (op : Byte) : topField op < 4 := by
  have := op.isLt
  unfold topField
  omega

/-- An opcode byte is put together from its three fields (30_encoding R57). -/
theorem opcodeOfFields_fields (op : Byte) : opcodeOfFields (topField op) (midField op) (lowField op) = op := by
  apply BitVec.eq_of_toNat_eq
  simp only [opcodeOfFields, topField, midField, lowField, BitVec.toNat_ofNat]
  omega

/-- What the decoder reads, encoded again, is the bytes that the opcode takes: by the four quarters of the map. -/
theorem encode_decodeFields (op b2 b3 : Byte) : encode (decodeFields op b2 b3) = takenBytes op b2 b3 := by
  have hmid : midField op < 8 := Nat.mod_lt _ (by decide)
  have hlow : lowField op < 8 := Nat.mod_lt _ (by decide)
  have htop : topField op < 4 := topField_lt op
  have hop := opcodeOfFields_fields op
  unfold decodeFields
  interval_cases topField op
  · simpa [hop] using encode_decodeQuarter0 hmid hlow (ofBytes b3 b2)
  · simpa [hop] using encode_mov hmid hlow b2 b3
  · simpa [hop] using encode_alu hmid hlow b2 b3
  · simpa [hop] using encode_decodeQuarter3 hmid hlow (ofBytes b3 b2)

@[simp] theorem opcode_decodeFields (op b2 b3 : Byte) : (decodeFields op b2 b3).opcode = op :=
  (List.cons.inj (encode_decodeFields op b2 b3)).1

theorem operandBytes_decodeFields (op b2 b3 : Byte) :
    (decodeFields op b2 b3).operandBytes = [b2, b3].take (opcodeLength op - 1) :=
  (List.cons.inj (encode_decodeFields op b2 b3)).2

/-- An instruction has as many operand bytes as its opcode takes (30_encoding R64). -/
theorem operandBytes_length (i : Instr) : i.operandBytes.length + 1 = opcodeLength i.opcode := by
  have h := operandBytes_decodeFields i.opcode (i.operandBytes.getD 0 0) (i.operandBytes.getD 1 0)
  rw [decodeFields_opcode_operandBytes] at h
  rw [h]
  rcases opcodeLength_cases i.opcode with hl | hl | hl <;> rw [hl] <;> rfl

theorem encode_length (i : Instr) : (encode i).length = i.length := operandBytes_length i

/-! ## The decoder on a list of bytes -/

/-- The operand bytes that an opcode takes: none, one or two. -/
theorem operands_cases {op : Byte} {operands : List Byte} (h : operands.length + 1 = opcodeLength op) :
    (opcodeLength op = 1 ∧ operands = []) ∨ (opcodeLength op = 2 ∧ ∃ b2, operands = [b2]) ∨
      (opcodeLength op = 3 ∧ ∃ b2 b3, operands = [b2, b3]) := by
  rcases opcodeLength_cases op with hl | hl | hl
  · exact .inl ⟨hl, List.length_eq_zero_iff.1 (by omega)⟩
  · exact .inr (.inl ⟨hl, List.length_eq_one_iff.1 (by omega)⟩)
  · exact .inr (.inr ⟨hl, List.length_eq_two.1 (by omega)⟩)

theorem takenBytes_getD {op : Byte} {operands : List Byte} (h : operands.length + 1 = opcodeLength op) :
    takenBytes op (operands.getD 0 0) (operands.getD 1 0) = op :: operands := by
  obtain ⟨hl, rfl⟩ | ⟨hl, b2, rfl⟩ | ⟨hl, b2, b3, rfl⟩ := operands_cases h <;> rw [takenBytes, hl] <;> rfl

theorem bytesWellFormed_cons {op : Byte} {operands : List Byte} (h : operands.length + 1 = opcodeLength op) :
    bytesWellFormed (op :: operands) = true := by
  obtain ⟨hl, rfl⟩ | ⟨hl, b2, rfl⟩ | ⟨hl, b2, b3, rfl⟩ := operands_cases h <;> simp only [bytesWellFormed, hl]

/-- `decode` takes the operand bytes of the opcode off the front of the list. -/
theorem decode_append {op : Byte} {operands : List Byte} (h : operands.length + 1 = opcodeLength op)
    (rest : List Byte) :
    decode (op :: (operands ++ rest)) = .ok (decodeFields op (operands.getD 0 0) (operands.getD 1 0), rest) := by
  obtain ⟨hl, rfl⟩ | ⟨hl, b2, rfl⟩ | ⟨hl, b2, b3, rfl⟩ := operands_cases h <;> simp [decode, hl]

/-- `decode` rejects a list that ends before the operand bytes of the opcode. -/
theorem length_of_decode_ok {op : Byte} {tail : List Byte} {r : Instr × List Byte} (h : decode (op :: tail) = .ok r) :
    opcodeLength op ≤ tail.length + 1 := by
  rcases opcodeLength_cases op with hl | hl | hl <;> rw [hl]
  · omega
  · match tail with
    | [] => simp [decode, hl] at h
    | _ :: _ => simp
  · match tail with
    | [] => simp [decode, hl] at h
    | [_] => simp [decode, hl] at h
    | _ :: _ :: _ => simp

/-- A list that has the operand bytes of the opcode is those bytes and the rest. -/
theorem exists_operands {op : Byte} {tail : List Byte} (h : opcodeLength op ≤ tail.length + 1) :
    ∃ operands rest, operands.length + 1 = opcodeLength op ∧ operands ++ rest = tail := by
  refine ⟨tail.take (opcodeLength op - 1), tail.drop (opcodeLength op - 1), ?_, List.take_append_drop _ tail⟩
  have := opcodeLength_cases op
  rw [List.length_take]
  omega

/-- Settles O1: the operand bytes of an instruction are those that its opcode takes, and the fields give it back. -/
theorem decodeOfEncodeIsTheInstruction : Obligations.DecodeOfEncodeIsTheInstruction := by
  intro i rest
  have hlen := operandBytes_length i
  refine ⟨bytesWellFormed_cons hlen, (decode_append hlen rest).trans ?_⟩
  rw [decodeFields_opcode_operandBytes]

/-- Settles O2: an opcode and the operand bytes that the decoder took are the bytes of what it read. -/
theorem encodeOfDecodeIsTheBytes : Obligations.EncodeOfDecodeIsTheBytes := by
  intro bytes i rest h
  cases bytes with
  | nil => cases h
  | cons op tail =>
    obtain ⟨operands, rest', hlen, rfl⟩ := exists_operands (length_of_decode_ok h)
    rw [decode_append hlen] at h
    cases h
    rw [encode_decodeFields, takenBytes_getD hlen, List.cons_append]

/-- Settles O3: what is read at an opcode has that opcode, and only a list that is too short is rejected. -/
theorem everyOpcodeSelectsOneRow : Obligations.EveryOpcodeSelectsOneRow := by
  refine ⟨opcode_decodeFields, fun op i h => ?_, fun op rest => ⟨fun ⟨_, h⟩ => length_of_decode_ok h, fun h => ?_⟩⟩
  · exact ⟨_, _, h ▸ (decodeFields_opcode_operandBytes i).symm⟩
  · obtain ⟨operands, rest', hlen, rfl⟩ := exists_operands h
    exact ⟨_, decode_append hlen rest'⟩

/-! ## Lengths and tiers by the opcode lists of the rules -/

/-- The lengths that the model reads from the fields are those of the rule's lists (30_encoding R64). -/
theorem opcodeLength_eq (op : Byte) :
    opcodeLength op = if op ∈ threeByteOpcodes then 3 else if op ∈ twoByteOpcodes then 2 else 1 := by
  revert op
  decide

/-- The tiers that the model reads from the fields are those of the spec's lists (30_encoding R65, R66). -/
theorem opcodeTier_eq (op : Byte) :
    opcodeTier op =
      if op ∈ unsupportedOpcodes then .unsupported else if op ∈ unnamedOpcodes then .unnamed else .source := by
  revert op
  decide

theorem opcodeLength_of_unsupported : ∀ op ∈ unsupportedOpcodes, opcodeLength op = 1 := by decide

/-- Settles O4: the opcode lists give the length that the opcode takes, and an instruction has that many bytes. -/
theorem lengthOfEveryInstruction : Obligations.LengthOfEveryInstruction := by
  intro i
  refine ⟨(encode_length i).trans (opcodeLength_eq i.opcode), (encode_length i).symm, fun h => ?_⟩
  have hlen : i.operandBytes.length = 0 := by
    have := operandBytes_length i
    rw [opcodeLength_of_unsupported _ h] at this
    omega
  rw [encode, List.eq_nil_of_length_eq_zero hlen]

/-- Settles O5: a tier is a function of the opcode, and the lists give it at every opcode. -/
theorem tierOfEveryInstruction : Obligations.TierOfEveryInstruction := fun i => opcodeTier_eq i.opcode

/-- Settles O6: each word evaluates to its instruction. -/
theorem specWordsDecode : Obligations.SpecWordsDecode := by
  unfold Obligations.SpecWordsDecode
  and_intros <;> rfl

end Sys2Proof.Machine
end

section
/-! Proofs about dispatch (40_dispatch R70 to R75, 60_exceptions R172 to R180): what each tier does under each policy, what a step
that runs an instruction answers, and where a step is refused. -/

namespace Sys2Proof.Machine

/-! ## Tiers and policies (40_dispatch R70, R75) -/

theorem not_mem_unsupportedOpcodes_of_unnamed : ∀ op ∈ unnamedOpcodes, op ∉ unsupportedOpcodes := by decide

theorem tier_eq_unsupported_iff (i : Instr) : i.tier = .unsupported ↔ i.opcode ∈ unsupportedOpcodes := by
  rw [Instr.tier, opcodeTier_eq]
  split_ifs <;> simp_all

theorem tier_eq_unnamed_iff (i : Instr) : i.tier = .unnamed ↔ i.opcode ∈ unnamedOpcodes := by
  have hdisj := not_mem_unsupportedOpcodes_of_unnamed i.opcode
  rw [Instr.tier, opcodeTier_eq]
  split_ifs <;> simp_all

theorem dispatchAction_eq_raise_iff (tier : Tier) (policy : UnnamedTierPolicy) :
    dispatchAction tier policy = .raise ↔ tier = .unsupported ∨ (tier = .unnamed ∧ policy = .unsupported) := by
  cases tier <;> cases policy <;> decide

theorem dispatchAction_eq_refuse_iff (tier : Tier) (policy : UnnamedTierPolicy) :
    dispatchAction tier policy = .refuse ↔ tier = .unnamed ∧ policy = .refuse := by
  cases tier <;> cases policy <;> decide

/-! ## Refusals, function by function -/

/-- Nothing faults (log entry 31), so what is never refused answers a next state. -/
theorem exists_next_of_not_refused {x : Result} (h : ∀ r, x ≠ .refused r) : ∃ t, x = .next t := by
  cases x with
  | next t => exact ⟨t, rfl⟩
  | fault f => cases f
  | refused r => exact absurd rfl (h r)

theorem perform_eq_refused_iff {i : Instr} {effect : State → State} {s : State} {r : Refusal} :
    perform i effect s = .refused r ↔
      dispatchAction i.tier s.cfg.unnamedTierPolicy = .refuse ∧ r = .unnamedTier i.opcode s.pc := by
  cases ha : dispatchAction i.tier s.cfg.unnamedTierPolicy with
  | execute => simp [perform_execute s ha]
  | raise => simp [perform_raise s ha]
  | refuse => simp [perform_refuse s ha, eq_comm]

/-- An instruction is refused exactly where its opcode is of tier `unnamed` and the policy is `refuse` (40_dispatch R75). -/
theorem exec_eq_refused_iff {i : Instr} {s : State} {r : Refusal} :
    exec i s = .refused r ↔
      i.opcode ∈ unnamedOpcodes ∧ s.cfg.unnamedTierPolicy = .refuse ∧ r = .unnamedTier i.opcode s.pc := by
  obtain ⟨effect, he, -⟩ := exec_eq_perform i
  rw [he, perform_eq_refused_iff, dispatchAction_eq_refuse_iff, tier_eq_unnamed_iff, and_assoc]

theorem executeOne_eq_refused_iff {m : Mode} {s : State} {r : Refusal} :
    executeOne m s = .refused r ↔ exec s.fetchInstr s = .refused r := by
  obtain ⟨t, ht, he⟩ | ⟨r', hr, he⟩ := executeOne_cases m s
  · simp [ht, he]
  · rw [hr, he]

/-- The controller runs the instruction at PC: it is RUNNING with no break to take (60_exceptions R173, R174, R176). -/
def State.RunsNext (s : State) : Prop := ∃ m, s.ctrl = .running m ∧ (m = .run → s.breakPending = false)

@[simp] theorem State.opcode_fetchInstr (s : State) : s.fetchInstr.opcode = s.readByte s.pc := opcode_decodeFields _ _ _

/-- The controller passes the refusal of the instruction at PC on, and refuses nothing itself. -/
theorem controllerStep_eq_refused_iff {s : State} {r : Refusal} :
    controllerStep s = .refused r ↔ s.RunsNext ∧ s.readByte s.pc ∈ unnamedOpcodes ∧
      s.cfg.unnamedTierPolicy = .refuse ∧ r = .unnamedTier (s.readByte s.pc) s.pc := by
  obtain ⟨m, hc, hb, he⟩ | ⟨hc, hb, he⟩ | ⟨hc, he⟩ := controllerStep_cases s
  · have hruns : s.RunsNext := ⟨m, hc, hb⟩
    rw [he, executeOne_eq_refused_iff, exec_eq_refused_iff, State.opcode_fetchInstr, and_iff_right hruns]
  · have hruns : ¬ s.RunsNext := fun ⟨m, hm, hmb⟩ => by
      obtain rfl : m = .run := by simpa [hc, eq_comm] using hm
      cases hb.symm.trans (hmb rfl)
    simp [he, hruns]
  · have hruns : ¬ s.RunsNext := fun ⟨m, hm, _⟩ => hc m hm
    simp [he, hruns]

theorem hostEdit_eq_refused_iff {move : HostMove} {edited s : State} {r : Refusal} :
    hostEdit move edited s = .refused r ↔ (∃ m, s.ctrl = .running m) ∧ r = .hostMoveNotAllowed move := by
  obtain ⟨hc, he⟩ | ⟨hc, he⟩ := hostEdit_cases move edited s
  · simp [he, hc]
  · rw [he, and_iff_right hc, Host.Outcome.refused.injEq, eq_comm]

/-- A move of the host is refused where it is an edit while RUNNING; `proceed` is the core's own step. -/
theorem hostMove_eq_refused_iff {move : HostMove} {s : State} {r : Refusal} :
    hostMove move s = .refused r ↔
      (move.isEdit = true ∧ (∃ m, s.ctrl = .running m) ∧ r = .hostMoveNotAllowed move) ∨
      (move = .proceed ∧ controllerStep s = .refused r) := by
  cases move with
  | proceed => simp [hostMove, HostMove.isEdit]
  | load | poke | setPc | setInputPort | restore => simp [hostMove, HostMove.isEdit, hostEdit_eq_refused_iff]
  | requestRun | requestStep | requestBreak | requestReset | receiveEvents => simp [hostMove, HostMove.isEdit]

/-! ## The next step, by the host's moves to come -/

theorem not_editWhileRunning_of_nil {s : State} (hm : s.hostMoves = []) (move : HostMove) : ¬ s.EditWhileRunning move :=
  fun ⟨_, ⟨_, h⟩, _⟩ => nomatch hm.symm.trans h

theorem executesNext_iff_of_nil {s : State} (hm : s.hostMoves = []) : s.ExecutesNext ↔ s.RunsNext :=
  and_iff_left (.inl hm)

theorem editWhileRunning_iff_of_cons {s : State} {move : HostMove} {moves : List HostMove} (hm : s.hostMoves = move :: moves)
    (edit : HostMove) : s.EditWhileRunning edit ↔ move = edit ∧ edit.isEdit = true ∧ ∃ m, s.ctrl = .running m := by
  simp only [State.EditWhileRunning, hm, List.cons.injEq, exists_and_left, exists_eq', and_true, and_left_comm]

theorem executesNext_iff_of_cons {s : State} {move : HostMove} {moves : List HostMove} (hm : s.hostMoves = move :: moves) :
    s.ExecutesNext ↔ s.RunsNext ∧ move = .proceed := by
  simp only [State.ExecutesNext, State.RunsNext, hm, List.cons.injEq, exists_and_left, exists_eq', and_true,
    reduceCtorEq, false_or]

/-- A step is refused exactly at an edit while RUNNING and where it runs an opcode of tier `unnamed` under `refuse`. -/
theorem step_eq_refused_iff {s : State} {r : Refusal} :
    step s = .refused r ↔
      (∃ move, s.EditWhileRunning move ∧ r = .hostMoveNotAllowed move) ∨
      (s.ExecutesNext ∧ s.readByte s.pc ∈ unnamedOpcodes ∧ s.cfg.unnamedTierPolicy = .refuse ∧
        r = .unnamedTier (s.readByte s.pc) s.pc) := by
  cases hm : s.hostMoves with
  | nil =>
    simp only [step_nil hm, controllerStep_eq_refused_iff, executesNext_iff_of_nil hm, not_editWhileRunning_of_nil hm,
      false_and, exists_false, false_or]
  | cons move moves =>
    rw [step_cons hm, hostMove_eq_refused_iff]
    refine or_congr ?_ ?_
    · simp only [editWhileRunning_iff_of_cons hm, and_assoc, exists_eq_left']
    · rw [controllerStep_eq_refused_iff, executesNext_iff_of_cons hm, and_assoc, and_left_comm]
      rfl

/-! ## The step that runs an instruction -/

/-- RUNNING with no break to take, the controller runs one instruction in its mode. -/
theorem controllerStep_of_running {m : Mode} {s : State} (hc : s.ctrl = .running m) (hb : m = .run → s.breakPending = false) :
    controllerStep s = executeOne m s := by
  obtain ⟨m', hc', -, he⟩ | ⟨hc', hb', -⟩ | ⟨hc', -⟩ := controllerStep_cases s
  · obtain rfl : m = m' := by simpa [hc] using hc'
    exact he
  · obtain rfl : m = .run := by simpa [hc] using hc'
    cases hb'.symm.trans (hb rfl)
  · exact absurd hc (hc' m)

theorem step_proceed (s : State) (moves : List HostMove) :
    step { s with hostMoves := .proceed :: moves } = controllerStep { s with hostMoves := moves } :=
  step_cons (s := { s with hostMoves := .proceed :: moves }) rfl

theorem executeOne_of_next {m : Mode} {s t : State} (h : exec s.fetchInstr s = .next t) :
    executeOne m s = .next { t with ctrl := ctrlAfter t.cfg m s.fetchInstr } := by
  simp only [executeOne, h]

theorem raisesUnsupported_iff (cfg : Config) (i : Instr) :
    raisesUnsupported cfg i = true ↔
      i.opcode ∈ unsupportedOpcodes ∨ (i.opcode ∈ unnamedOpcodes ∧ cfg.unnamedTierPolicy = .unsupported) := by
  rw [raisesUnsupported, decide_eq_true_eq, dispatchAction_eq_raise_iff, tier_eq_unsupported_iff, tier_eq_unnamed_iff]

/-- The controller's state after an instruction, by the opcode lists (60_exceptions R174, R175, R177). -/
theorem ctrlAfter_eq (cfg : Config) (m : Mode) (i : Instr) :
    ctrlAfter cfg m i =
      if i.opcode = 0x76 then .halted
      else if m = .step ∨ i.opcode ∈ unsupportedOpcodes ∨
          (i.opcode ∈ unnamedOpcodes ∧ cfg.unnamedTierPolicy = .unsupported) then .ready
      else .running .run := by
  simp only [← raisesUnsupported_iff]
  by_cases hi : i.opcode = 0x76
  · rw [if_pos hi, (ctrlAfter_eq_halted_iff cfg m i).2 hi]
  · simp only [ctrlAfter, continueSignal, hi, if_false]
    cases m <;> simp

/-! ## The host's moves to come are not read by an instruction -/

/-- `t` is `s` with other moves of the host to come. -/
def SameButHostMoves (moves : List HostMove) (s t : State) : Prop := t = { s with hostMoves := moves }

/-- No effect reads the host's moves. -/
theorem HasEffect.sameButHostMoves {i : Instr} {effect : State → State} (h : HasEffect i effect)
    {moves : List HostMove} {s t : State} (hst : SameButHostMoves moves s t) :
    SameButHostMoves moves (effect s) (effect t) := by
  unfold SameButHostMoves at hst
  rw [hst]
  cases h with
  | mov dst src => cases dst <;> cases src <;> rfl
  | alu op src => cases op <;> cases src <;> rfl
  | aluImm op => cases op <;> rfl
  | mvi r | inr r | dcr r => cases r <;> rfl
  | lxi rp | inx rp | dcx rp | dad rp | ldax rp | stax rp | push rp | pop rp => cases rp <;> rfl
  | jcc | ccc | rcc => exact ite_related rfl rfl
  | _ => rfl

theorem exec_sameButHostMoves {i : Instr} (moves : List HostMove) {s t : State} (h : exec i s = .next t) :
    exec i { s with hostMoves := moves } = .next { t with hostMoves := moves } := by
  obtain ⟨effect, he⟩ := exists_hasEffect i
  rw [he.exec_eq] at h ⊢
  obtain ⟨t', ht', rfl⟩ := perform_related (R := SameButHostMoves moves) (s := s) (s' := { s with hostMoves := moves })
    rfl rfl (fun n hst => by rw [hst]; rfl) (fun e hst => by rw [hst]; rfl) he.sameButHostMoves h
  exact ht'

theorem executeOne_sameButHostMoves {m : Mode} (moves : List HostMove) {s t : State} (h : executeOne m s = .next t) :
    executeOne m { s with hostMoves := moves } = .next { t with hostMoves := moves } := by
  obtain ⟨u, hu, he⟩ | ⟨r, -, he⟩ := executeOne_cases m s
  · obtain rfl : { u with ctrl := ctrlAfter u.cfg m s.fetchInstr } = t := by simpa [he] using h
    exact executeOne_of_next (exec_sameButHostMoves moves hu)
  · cases he.symm.trans h

/-! ## The obligations -/

/-- Settles O48: the tier and the policy choose the action of dispatch, and `refuse` on an opcode of tier `unnamed` is the only
refusal. -/
theorem unnamedTierPolicies : Obligations.UnnamedTierPolicies := by
  intro i s
  refine ⟨fun hi hp => exec_unnamed_unsupported s ((tier_eq_unnamed_iff i).2 hi) hp,
    fun hi hp => exec_unnamed_refuse s ((tier_eq_unnamed_iff i).2 hi) hp,
    fun h => exists_next_of_not_refused fun r hr => ?_⟩
  obtain ⟨hi, hp, -⟩ := exec_eq_refused_iff.1 hr
  exact h.elim (absurd hi) (absurd hp)

/-- Settles O60: the refusals of the edits and of the instruction at PC are all there are, and a step that is not refused
completes. -/
theorem stepIsRefusedExactlyWhere : Obligations.StepIsRefusedExactlyWhere := by
  refine ⟨fun s r => step_eq_refused_iff, fun s hedit hopcode => exists_next_of_not_refused fun r hr => ?_⟩
  obtain ⟨move, hmove, -⟩ | ⟨hnext, hop, hp, -⟩ := step_eq_refused_iff.1 hr
  · exact hedit move hmove
  · exact hopcode ⟨hnext, hop, hp⟩

/-- Settles O55: the step is the controller's run of the fetched instruction, whose move after it is read off the opcode lists,
and the host's moves to come are not read. -/
theorem stepRunsTheDecodedInstruction : Obligations.StepRunsTheDecodedInstruction := by
  intro s m i rest hmoves hc hb hdecode
  obtain rfl := State.fetchInstr_of_decode hdecode
  have hstep : step s = executeOne m s := (step_nil hmoves).trans (controllerStep_of_running hc hb)
  refine ⟨fun t ht => ?_, fun r hr => ?_, fun moves t ht => ?_⟩
  · rw [hstep, executeOne_of_next ht, ctrlAfter_eq, (exec_keeps ht).cfg]
  · rw [hstep, executeOne_eq_refused_iff.2 hr]
  · have hproceed : step { s with hostMoves := .proceed :: moves } = executeOne m { s with hostMoves := moves } :=
      (step_proceed s moves).trans (controllerStep_of_running (s := { s with hostMoves := moves }) hc hb)
    rw [hproceed, executeOne_sameButHostMoves moves (hstep.symm.trans ht)]

end Sys2Proof.Machine
end

section
/-! Proofs about data transfer (41_data_transfer R80 to R92): each instruction starts from its equation in Laws/Next, and what
it reads and writes is said by the laws of the operation that its effect is. -/

namespace Sys2Proof.Machine

section

variable (s : State)

/-! ## Register codes and pairs: MOV, MVI, LXI (R80 to R85) -/

/-- The slots 01 DDD SSS of the opcode table, HLT's among them. -/
theorem encode_mov_code (dst src : R8) : encode (Instr.mov dst src) = [opcodeOfFields 1 dst.code src.code] := by
  cases dst <;> cases src <;> rfl

theorem encode_mvi (d8 : Byte) (dst : R8) : encode (Instr.mvi d8 dst) = [opcodeOfFields 0 dst.code 6, d8] := by
  cases dst <;> rfl

theorem encode_lxi (d16 : Word) (rp : RegPair) :
    encode (Instr.lxi d16 rp) = [opcodeOfFields 0 (2 * rp.code) 1, loByte d16, hiByte d16] := by
  cases rp <;> rfl

/-- A register written with what it holds is no change. -/
theorem State.writeR_readR {r : R8} (hr : r ≠ .m) : s.writeR r (s.readR r) = s := by
  cases r with
  | m => exact absurd rfl hr
  | _ => rfl

/-- `operandWritten_writeR` for an instruction that writes no flag. -/
theorem operandWritten_writeR_advance (dst : R8) (v : Byte) (n : Nat) :
    OperandWritten dst v (BitVec.ofNat 16 n) s ((s.advance n).writeR dst v) :=
  operandWritten_writeR s dst v n ((s.advance n).writeR dst v).flags

/-- `pairWritten_writePair` for an instruction that writes no flag. -/
theorem pairWritten_writePair_advance (rp : RegPair) (v : Word) (n : Nat) :
    PairWritten rp v.toNat (BitVec.ofNat 16 n) s ((s.advance n).writePair rp v) :=
  pairWritten_writePair s rp v n ((s.advance n).writePair rp v).flags

/-- The operand fetch does not change what MOV copies. -/
theorem exec_mov_writeR {dst src : R8} (h : ¬ (dst = .m ∧ src = .m)) :
    exec (Instr.mov dst src) s = .next ((s.advance 1).writeR dst (s.readR src)) := by
  rw [exec_mov s dst src h, movEffect, State.readR_advance]

/-! ## The accumulator and memory: LDA, STA, LDAX, STAX (R86 to R89) -/

theorem exec_ldax_setA (rp : IndexPair) :
    exec (Instr.ldax rp) s =
      .next { s with regs := { s.regs with a := s.readByte (s.readIndexPair rp) }, pc := s.pc + 1 } := by
  rw [exec_ldax]
  cases rp <;> rfl

/-- STA stores A and sends the hint; the hint is no write to memory. -/
theorem exec_sta_stores (a16 : Word) :
    ∃ t, exec (.sta a16) s = .next t ∧ StoredByte a16 s.regs.a s t ∧
      t = { s with mem := t.mem, events := s.events ++ [.persistHint a16], pc := s.pc + 3 } :=
  ⟨_, exec_sta s a16, storedByte_writeByte (s.advance 3) a16 s.regs.a, rfl⟩

/-- STAX stores A and writes nothing else, the events included. -/
theorem exec_stax_stores (rp : IndexPair) :
    ∃ t, exec (Instr.stax rp) s = .next t ∧ StoredByte (s.readIndexPair rp) s.regs.a s t ∧
      t = { s with mem := t.mem, pc := s.pc + 1 } := by
  have hpair : (s.advance 1).readIndexPair rp = s.readIndexPair rp := by cases rp <;> rfl
  refine ⟨_, exec_stax s rp, ?_, rfl⟩
  rw [staxEffect, hpair]
  exact storedByte_writeByte (s.advance 1) _ _

/-! ## HL: LHLD, SHLD, XCHG (R90 to R92) -/

@[simp] theorem Regs.hiByte_hl (r : Regs) : hiByte r.hl = r.h := hiByte_ofBytes r.h r.l

@[simp] theorem Regs.loByte_hl (r : Regs) : loByte r.hl = r.l := loByte_ofBytes r.h r.l

/-- HL loaded with the word at `a`: L from `a`, H from the next address (20_memory R38, R39). -/
theorem State.writePair_hl_readWord (a : Word) :
    s.writePair .hl (s.readWord a) =
      { s with regs := { s.regs with l := s.readByte a, h := s.readByte (a + 1) } } := by
  simp only [State.writePair, Regs.setHl, State.readWord, hiByte_ofBytes, loByte_ofBytes]

/-- HL stored at `a` and the next address; a byte elsewhere reads as before. -/
theorem State.readByte_writeWord_hl (a : Word) :
    (s.writeWord a s.regs.hl).readByte a = s.regs.l ∧ (s.writeWord a s.regs.hl).readByte (a + 1) = s.regs.h ∧
      ∀ x, x ≠ a → x ≠ a + 1 → (s.writeWord a s.regs.hl).readByte x = s.readByte x := by
  obtain ⟨-, -, hframe⟩ := storedWord_writeWord s a s.regs.hl
  refine ⟨?_, ?_, hframe⟩
  · rw [State.readByte_writeWord, if_neg (word_ne_add_one a), if_pos rfl, Regs.loByte_hl]
  · rw [State.readByte_writeWord, if_pos rfl, Regs.hiByte_hl]

end

/-! ## The obligations -/

/-- Settles O11: MOV is one write through the destination's code, and a register written with itself is no change. -/
theorem movCopiesOneByte : Obligations.MovCopiesOneByte := by
  refine ⟨fun dst src s h => ?_, fun r s hr => ?_, rfl⟩
  · exact ⟨encode_mov_code dst src, _, exec_mov_writeR s h, operandWritten_writeR_advance s dst _ 1,
      State.writeR_flags ..⟩
  · rw [exec_mov_writeR s fun h => hr h.1, ← State.readR_advance s 1, State.writeR_readR _ hr]
    rfl

/-- Settles O12: MVI is one write through the destination's code. -/
theorem mviLoadsTheImmediate : Obligations.MviLoadsTheImmediate := fun dst d8 s =>
  ⟨encode_mvi d8 dst, _, exec_mvi s d8 dst, operandWritten_writeR_advance s dst d8 2, State.writeR_flags ..⟩

/-- Settles O13: LXI is one write to the pair. -/
theorem lxiLoadsThePair : Obligations.LxiLoadsThePair := fun rp d16 s hp =>
  ⟨encode_lxi d16 rp, _, exec_lxi s d16 rp hp, pairWritten_writePair_advance s rp d16 3, State.writePair_flags ..⟩

/-- Settles O15: both stores are one byte write of A, and STA's event follows it. -/
theorem accumulatorStores : Obligations.AccumulatorStores := fun a16 s =>
  ⟨rfl, rfl, rfl, exec_sta_stores s a16, exec_stax_stores s .bc, exec_stax_stores s .de⟩

/-- Settles O17: SHLD is one word write of HL, and sends no event. -/
theorem shldStoresHL : Obligations.ShldStoresHL := fun a16 s =>
  ⟨rfl, _, exec_shld s a16, rfl, (s.advance 3).readByte_writeWord_hl a16⟩

/-- Settles O14: both loads write A with a byte read before the write. -/
theorem accumulatorLoads : Obligations.AccumulatorLoads := fun a16 s =>
  ⟨rfl, rfl, rfl, exec_lda s a16, exec_ldax_setA s .bc, exec_ldax_setA s .de⟩

/-- Settles O16: LHLD writes HL with one word read before the write. -/
theorem lhldLoadsHL : Obligations.LhldLoadsHL := by
  refine fun a16 s => ⟨rfl, ?_⟩
  rw [exec_lhld, lhldEffect, State.writePair_hl_readWord]
  rfl

/-- Settles O18: XCHG keeps the policy, so it executes again, and the second exchange undoes the first. -/
theorem xchgExchangesHLAndDE : Obligations.XchgExchangesHLAndDE := by
  refine fun s hp => ⟨rfl, exec_xchg s hp, fun t ht => ?_⟩
  obtain rfl : xchgEffect (s.advance 1) = t := by simpa [exec_xchg s hp] using ht
  exact ⟨_, exec_xchg _ hp, rfl⟩

end Sys2Proof.Machine
end

section
/-! Proofs about arithmetic (42_arithmetic R93 to R108): what an instruction computes is said by the laws of the ALU function
that its effect calls, and what it leaves unchanged by the laws of the write that follows. -/

namespace Sys2Proof.Machine

section

variable (s : State)

/-! ## The adder and the subtracter on A (R93 to R102) -/

/-- The slots 10 ALU SSS of the opcode table. -/
theorem encode_alu_code (op : AluOp) (src : R8) :
    encode (Instr.alu op src) = [opcodeOfFields 2 op.code src.code] := by
  cases op <;> cases src <;> rfl

/-- The slots 11 ALU 110 of the opcode table. -/
theorem encode_aluImm (d8 : Byte) (op : AluOp) :
    encode (Instr.aluImm d8 op) = [opcodeOfFields 3 op.code 6, d8] := by
  cases op <;> rfl

theorem onlyAccumulator_setResult (n : Nat) (x : AluResult) :
    OnlyAccumulator (BitVec.ofNat 16 n) s ((s.advance n).setResult x) := rfl

/-- An instruction that leaves the adder's result in A. -/
theorem adderGives_of_exec {i : Instr} {n : Nat} {v : Byte} {cin : Bool}
    (h : exec i s = .next ((s.advance n).setResult (addAlu s.regs.a v cin))) :
    ∃ t, exec i s = .next t ∧ OnlyAccumulator (BitVec.ofNat 16 n) s t ∧
      AdderGives s.regs.a v cin t.regs.a t.flags :=
  ⟨_, h, onlyAccumulator_setResult s n _, addAlu_gives s.regs.a v cin⟩

/-- An instruction that leaves the subtracter's result in A. -/
theorem subtracterGives_of_exec {i : Instr} {n : Nat} {v : Byte} {bin : Bool}
    (h : exec i s = .next ((s.advance n).setResult (subAlu s.cfg.subAuxCarry s.regs.a v bin))) :
    ∃ t, exec i s = .next t ∧ OnlyAccumulator (BitVec.ofNat 16 n) s t ∧
      SubtracterGives s.cfg.subAuxCarry s.regs.a v bin t.regs.a t.flags :=
  ⟨_, h, onlyAccumulator_setResult s n _, subAlu_gives s.cfg.subAuxCarry s.regs.a v bin⟩

/-- A result is written to A, which no other code reads. -/
theorem State.readR_setResult {r : R8} (hr : r ≠ .a) (x : AluResult) : (s.setResult x).readR r = s.readR r := by
  cases r with
  | a => exact absurd rfl hr
  | _ => rfl

/-- Subtracting what was added gives the byte back, whatever the two carries were. -/
theorem subAlu_addAlu_r (mode : SubAuxCarry) (a v : Byte) : (subAlu mode (addAlu a v false).r v false).r = a := by
  obtain ⟨hadd, -⟩ := addAlu_gives a v false
  obtain ⟨hsub, -⟩ := subAlu_gives mode (addAlu a v false).r v false
  apply BitVec.eq_of_toNat_eq
  rw [hsub, hadd, Bool.toNat_false]
  omega

/-- Taking 1 away modulo 2 ^ n is adding 2 ^ n - 1. -/
theorem sub_one_toNat {n : Nat} (hn : 0 < n) (w : BitVec n) : (w - 1).toNat = (w.toNat + (2 ^ n - 1)) % 2 ^ n := by
  have hone : (1 : BitVec n).toNat = 1 := BitVec.toNat_one hn
  rw [BitVec.toNat_sub, Nat.add_comm, hone]

/-! ## One more and one less in the operand: INR, DCR (R103, R104) -/

theorem encode_inr (dst : R8) : encode (Instr.inr dst) = [opcodeOfFields 0 dst.code 4] := by cases dst <;> rfl

theorem encode_dcr (dst : R8) : encode (Instr.dcr dst) = [opcodeOfFields 0 dst.code 5] := by cases dst <;> rfl

/-- The operand fetch does not change what INR reads. -/
theorem exec_inr_writeR (dst : R8) :
    exec (Instr.inr dst) s =
      .next (((s.advance 1).writeR dst (s.readR dst + 1)).setFlags (incFlags s.cfg s.flags (s.readR dst))) := by
  rw [exec_inr, inrEffect, State.readR_advance, State.advance_cfg, State.advance_flags]

/-- The operand fetch does not change what DCR reads. -/
theorem exec_dcr_writeR (dst : R8) :
    exec (Instr.dcr dst) s =
      .next (((s.advance 1).writeR dst (s.readR dst - 1)).setFlags (decFlags s.cfg s.flags (s.readR dst))) := by
  rw [exec_dcr, dcrEffect, State.readR_advance, State.advance_cfg, State.advance_flags]

section

variable (cfg : Config) (f : Flags) (v : Byte)

theorem flagsOfResult_incFlags : FlagsOfResult (incFlags cfg f v) (v + 1) := flagsOfResult _ _ rfl rfl rfl

theorem flagsOfResult_decFlags : FlagsOfResult (decFlags cfg f v) (v - 1) := flagsOfResult _ _ rfl rfl rfl

theorem incFlags_ac : (incFlags cfg f v).ac = true ↔ v.toNat % 16 = 15 := decide_eq_true_iff

theorem decFlags_ac_borrow (h : cfg.subAuxCarry = .borrow) : (decFlags cfg f v).ac = true ↔ v.toNat % 16 = 0 := by
  rw [decFlags, h]
  exact decide_eq_true_iff

theorem decFlags_ac_carry8080 (h : cfg.subAuxCarry = .carry8080) :
    (decFlags cfg f v).ac = true ↔ v.toNat % 16 ≠ 0 := by
  rw [decFlags, h]
  exact (Bool.not_eq_true' _).to_iff.trans decide_eq_false_iff_not

theorem incFlags_cy_of_writes (h : cfg.incDecWritesCarry = true) :
    (incFlags cfg f v).cy = true ↔ v.toNat = 255 := by
  simp only [incFlags, h, if_true, decide_eq_true_eq, ← BitVec.toNat_inj]
  rfl

theorem decFlags_cy_of_writes (h : cfg.incDecWritesCarry = true) : (decFlags cfg f v).cy = true ↔ v.toNat = 0 := by
  simp only [decFlags, h, if_true, decide_eq_true_eq, ← BitVec.toNat_inj]
  rfl

end

/-! ## Pairs: INX, DCX, DAD (R105 to R107) -/

theorem encode_inx (rp : RegPair) : encode (Instr.inx rp) = [opcodeOfFields 0 (2 * rp.code) 3] := by cases rp <;> rfl

theorem encode_dcx (rp : RegPair) : encode (Instr.dcx rp) = [opcodeOfFields 0 (2 * rp.code + 1) 3] := by
  cases rp <;> rfl

theorem encode_dad (rp : RegPair) : encode (Instr.dad rp) = [opcodeOfFields 0 (2 * rp.code + 1) 1] := by
  cases rp <;> rfl

/-- An instruction whose whole effect is a write to a pair. -/
theorem pairWritten_of_exec {i : Instr} {rp : RegPair} {n v : Nat} {w : Word} (hv : w.toNat = v)
    (h : exec i s = .next ((s.advance n).writePair rp w)) :
    ∃ t, exec i s = .next t ∧ PairWritten rp v (BitVec.ofNat 16 n) s t ∧ t.flags = s.flags := by
  subst hv
  exact ⟨_, h, pairWritten_writePair_advance s rp w n, State.writePair_flags ..⟩

theorem exec_inx_writePair (rp : RegPair) :
    exec (Instr.inx rp) s = .next ((s.advance 1).writePair rp (s.readPair rp + 1)) := by
  rw [exec_inx, inxEffect, State.readPair_advance]

theorem exec_dcx_writePair (rp : RegPair) :
    exec (Instr.dcx rp) s = .next ((s.advance 1).writePair rp (s.readPair rp - 1)) := by
  rw [exec_dcx, dcxEffect, State.readPair_advance]

theorem exec_dad_writePair (rp : RegPair) :
    exec (Instr.dad rp) s =
      .next (((s.advance 1).writePair .hl (s.readPair .hl + s.readPair rp)).setFlags
        { s.flags with cy := decide ((s.readPair .hl).toNat + (s.readPair rp).toNat > 65535) }) := by
  rw [exec_dad, dadEffect, State.readPair_advance, BitVec.ofNat_add, BitVec.ofNat_toNat, BitVec.ofNat_toNat]
  simp only [BitVec.setWidth_eq]
  rfl

/-! ## Decimal adjust (R108) -/

/-- What DAA adds for the low digit. -/
def daaLowCorrection (a : Byte) (ac : Bool) : Nat := if a.toNat % 16 > 9 ∨ ac = true then 6 else 0

/-- What DAA adds for the high digit. -/
def daaHighCorrection (a : Byte) (cy : Bool) : Nat := if a.toNat > 0x99 ∨ cy = true then 0x60 else 0

theorem daaCorrection_eq (a : Byte) (cy ac : Bool) :
    daaCorrection a cy ac = daaLowCorrection a ac + daaHighCorrection a cy := rfl

/-- The high correction leaves the low nibble alone, so AC comes from the low one. -/
theorem daaAlu_ac (a : Byte) (cy ac : Bool) :
    (daaAlu a cy ac).ac = true ↔ a.toNat % 16 + daaLowCorrection a ac > 15 := by
  have hlow : daaCorrection a cy ac % 16 = daaLowCorrection a ac := by
    rw [daaCorrection_eq, daaLowCorrection, daaHighCorrection]
    split <;> split <;> rfl
  simp only [daaAlu, hlow, lowNibble, decide_eq_true_eq]

/-- DAA of the adder's result, with the carries that the adder leaves. -/
def decimalSum (a v : Byte) : AluResult :=
  daaAlu (addAlu a v false).r (addAlu a v false).cy (addAlu a v false).ac

end

/-! ### The digits of a decimal sum -/

/-- The sum of the low digits. -/
def unitsSum (a v : Byte) : Nat := a.toNat % 16 + v.toNat % 16

/-- The sum of the high digits and the carry from the low ones. -/
def tensSum (a v : Byte) : Nat := a.toNat / 16 + v.toNat / 16 + unitsSum a v / 10

section

variable {a v : Byte} (ha : isDecimal a) (hv : isDecimal v)

include ha hv

/-- The low correction is added where the low digits carry into the tens. -/
theorem daaLowCorrection_addAlu :
    daaLowCorrection (addAlu a v false).r (addAlu a v false).ac = if 10 ≤ unitsSum a v then 6 else 0 := by
  obtain ⟨hal, -⟩ := ha
  obtain ⟨hvl, -⟩ := hv
  obtain ⟨hr, -, -, hac⟩ := addAlu_gives a v false
  simp only [AluResult.flags] at hac
  refine if_congr ?_ rfl rfl
  rw [hr, hac, Bool.toNat_false, unitsSum]
  omega

/-- CY is set where the tens, with the carry into them, carry into the hundreds. -/
theorem decimalSum_cy : (decimalSum a v).cy = true ↔ 10 ≤ tensSum a v := by
  obtain ⟨hal, hah⟩ := ha
  obtain ⟨hvl, hvh⟩ := hv
  obtain ⟨hr, -, hcy, -⟩ := addAlu_gives a v false
  simp only [AluResult.flags] at hcy
  rw [decimalSum, daaAlu_cy, hr, hcy, Bool.toNat_false, tensSum, unitsSum]
  omega

/-- The high correction has the condition of CY. -/
theorem daaHighCorrection_addAlu :
    daaHighCorrection (addAlu a v false).r (addAlu a v false).cy = if 10 ≤ tensSum a v then 0x60 else 0 :=
  if_congr ((daaAlu_cy ..).symm.trans (decimalSum_cy ha hv)) rfl rfl

/-- Each digit of the adjusted sum is the sum of its digits and the carry into it, modulo 10. -/
theorem decimalSum_r_toNat : (decimalSum a v).r.toNat = tensSum a v % 10 * 16 + unitsSum a v % 10 := by
  obtain ⟨hr, -⟩ := addAlu_gives a v false
  rw [decimalSum, daaAlu_r_toNat, daaCorrection_eq, daaLowCorrection_addAlu ha hv, daaHighCorrection_addAlu ha hv, hr,
    Bool.toNat_false, tensSum, unitsSum]
  obtain ⟨hal, hah⟩ := ha
  obtain ⟨hvl, hvh⟩ := hv
  split <;> split <;> omega

theorem tensSum_le : tensSum a v ≤ 19 := by
  obtain ⟨hal, hah⟩ := ha
  obtain ⟨hvl, hvh⟩ := hv
  rw [tensSum, unitsSum]
  omega

/-- CY is the hundreds digit. -/
theorem decimalSum_cy_toNat : (decimalSum a v).cy.toNat = tensSum a v / 10 := by
  have hcy := decimalSum_cy ha hv
  have hle := tensSum_le ha hv
  by_cases h : 10 ≤ tensSum a v
  · rw [hcy.2 h, Bool.toNat_true]
    omega
  · rw [Bool.eq_false_iff.2 (mt hcy.1 h), Bool.toNat_false]
    omega

theorem isDecimal_decimalSum : isDecimal (decimalSum a v).r := by
  have hr := decimalSum_r_toNat ha hv
  constructor <;> omega

/-- The decimal sum, with CY as its hundreds digit. -/
theorem decimalValue_decimalSum :
    decimalValue a + decimalValue v = 100 * (decimalSum a v).cy.toNat + decimalValue (decimalSum a v).r := by
  rw [decimalSum_cy_toNat ha hv, decimalValue, decimalValue, decimalValue, decimalSum_r_toNat ha hv, tensSum, unitsSum]
  omega

end

/-- DAA after an instruction that leaves the adder's result in A: the addition keeps the policy, so DAA executes. -/
theorem daa_of_exec_add {s : State} (hp : s.cfg.unnamedTierPolicy = .execute) {i : Instr} {n : Nat} {v : Byte}
    (h : exec i s = .next ((s.advance n).setResult (addAlu s.regs.a v false)))
    (ha : isDecimal s.regs.a) (hv : isDecimal v) :
    ∃ t u, exec i s = .next t ∧ exec .daa t = .next u ∧ isDecimal u.regs.a ∧
      decimalValue s.regs.a + decimalValue v = 100 * u.flags.cy.toNat + decimalValue u.regs.a :=
  ⟨_, _, h, exec_daa _ hp, isDecimal_decimalSum ha hv, decimalValue_decimalSum ha hv⟩

/-! ## The obligations -/

/-- Settles O19: both are the adder, on the byte that the code names. -/
theorem addAndAdcRegister : Obligations.AddAndAdcRegister := fun src s =>
  ⟨encode_alu_code .add src, encode_alu_code .adc src, adderGives_of_exec s (exec_alu s .add src),
    adderGives_of_exec s (exec_alu s .adc src)⟩

/-- Settles O20: both are the subtracter, on the byte that the code names. -/
theorem subAndSbbRegister : Obligations.SubAndSbbRegister := fun src s =>
  ⟨encode_alu_code .sub src, encode_alu_code .sbb src, subtracterGives_of_exec s (exec_alu s .sub src),
    subtracterGives_of_exec s (exec_alu s .sbb src)⟩

/-- Settles O21: the adder and the subtracter on the immediate byte. -/
theorem arithmeticImmediates : Obligations.ArithmeticImmediates := fun d8 s =>
  ⟨encode_aluImm d8 .add, encode_aluImm d8 .adc, encode_aluImm d8 .sub, encode_aluImm d8 .sbb,
    adderGives_of_exec s (exec_aluImm s d8 .add), adderGives_of_exec s (exec_aluImm s d8 .adc),
    subtracterGives_of_exec s (exec_aluImm s d8 .sub), subtracterGives_of_exec s (exec_aluImm s d8 .sbb)⟩

/-- Settles O22: INR is one write through the destination's code, and its flags are those of the byte read before. -/
theorem inrIncrementsTheOperand : Obligations.InrIncrementsTheOperand := fun dst s =>
  ⟨encode_inr dst, _, s.readR dst + 1, exec_inr_writeR s dst, BitVec.toNat_add .., operandWritten_writeR s dst _ 1 _,
    flagsOfResult_incFlags .., incFlags_ac .., incFlags_cy _ _ _, incFlags_cy_of_writes _ _ _⟩

/-- Settles O23: DCR is one write through the destination's code, and its flags are those of the byte read before. -/
theorem dcrDecrementsTheOperand : Obligations.DcrDecrementsTheOperand := fun dst s =>
  ⟨encode_dcr dst, _, s.readR dst - 1, exec_dcr_writeR s dst, sub_one_toNat (by decide) _,
    operandWritten_writeR s dst _ 1 _, flagsOfResult_decFlags .., decFlags_ac_borrow _ _ _,
    decFlags_ac_carry8080 _ _ _, decFlags_cy _ _ _, decFlags_cy_of_writes _ _ _⟩

/-- Settles O24: both are one write to the pair. -/
theorem inxAndDcxCountThePair : Obligations.InxAndDcxCountThePair := fun rp s =>
  ⟨encode_inx rp, encode_dcx rp, pairWritten_of_exec s (BitVec.toNat_add ..) (exec_inx_writePair s rp),
    pairWritten_of_exec s (sub_one_toNat (by decide) _) (exec_dcx_writePair s rp)⟩

/-- Settles O25: DAD is one write to HL, and the flag it writes is CY. -/
theorem dadAddsThePairToHL : Obligations.DadAddsThePairToHL := by
  refine fun rp s => ⟨encode_dad rp, _, exec_dad_writePair s rp, ?_, rfl, decide_eq_true_iff⟩
  have hsum := BitVec.toNat_add (s.readPair .hl) (s.readPair rp)
  exact hsum ▸ pairWritten_writePair s .hl _ 1 _

/-- Settles O26: the two corrections are those of the digits of A. -/
theorem daaAdjustsTheAccumulator : Obligations.DaaAdjustsTheAccumulator := by
  refine fun s hp => ⟨rfl, _, daaLowCorrection s.regs.a s.flags.ac, daaHighCorrection s.regs.a s.flags.cy, exec_daa s hp,
    onlyAccumulator_setResult s 1 _, rfl, rfl, ?_, flagsOfResult_alu _, daaAlu_cy _ _ s.flags.ac, daaAlu_ac _ s.flags.cy _⟩
  rw [Nat.add_assoc]
  exact daaAlu_r_toNat s.regs.a s.flags.cy s.flags.ac

/-- Settles O27: DAA of the adder's result is the decimal sum, digit by digit. -/
theorem decimalAdditionAfterDaa : Obligations.DecimalAdditionAfterDaa := fun s src d8 hp ha =>
  ⟨fun hv => daa_of_exec_add hp (exec_alu s .add src) ha hv,
    fun hv => daa_of_exec_add hp (exec_aluImm s d8 .add) ha hv⟩

/-- Settles O28: ADD writes A alone, so SUB reads the same operand and takes away what was added. -/
theorem addThenSubRestoresTheAccumulator : Obligations.AddThenSubRestoresTheAccumulator := by
  intro src s hsrc
  refine ⟨_, _, exec_alu s .add src, exec_alu _ .sub src, ?_⟩
  have hoperand : (aluEffect .add (s.readR src) (s.advance 1)).readR src = s.readR src :=
    (State.readR_setResult _ hsrc _).trans (State.readR_advance s 1 src)
  have hrestored := subAlu_addAlu_r s.cfg.subAuxCarry s.regs.a (s.readR src)
  rw [hoperand]
  exact congrArg (fun a => { s.regs with a := a }) hrestored

end Sys2Proof.Machine
end

section
/-! Proofs about logic, compare, rotates and carry (43_logical R109 to R123): each instruction is one of the writes `setLogic`,
`setFlags`, `setRotated`, `setA`, so what such a write gives is said once for each of them. -/

namespace Sys2Proof.Machine

section

variable (s : State)

/-! ## Logic and compare (R109 to R116) -/

/-- An instruction that leaves the result of a logic operation in A. -/
theorem logicGives_of_exec {i : Instr} {n : Nat} {r : Byte} {ac : Bool}
    (h : exec i s = .next ((s.advance n).setLogic r ac)) :
    ∃ t, exec i s = .next t ∧ OnlyAccumulator (BitVec.ofNat 16 n) s t ∧ t.regs.a = r ∧
      LogicGives ac t.regs.a t.flags :=
  ⟨_, h, rfl, rfl, logicFlags_gives r ac⟩

/-- An instruction that leaves the flags of a subtraction and drops its result. -/
theorem flagsOnly_of_exec {i : Instr} {n : Nat} {v : Byte}
    (h : exec i s = .next ((s.advance n).setFlags (subAlu s.cfg.subAuxCarry s.regs.a v false).flags)) :
    ∃ (t : State) (r : Byte), exec i s = .next t ∧ t = { s with flags := t.flags, pc := s.pc + BitVec.ofNat 16 n } ∧
      SubtracterGives s.cfg.subAuxCarry s.regs.a v false r t.flags :=
  ⟨_, _, h, rfl, subAlu_gives s.cfg.subAuxCarry s.regs.a v false⟩

/-! ## Rotates (R117 to R120) -/

/-- `t` is `s` after a rotate to the left that enters `bitIn` in bit 0 of A: bit 7 goes to CY. -/
def RotatedLeft (bitIn : Nat) (s t : State) : Prop :=
  OnlyAccumulator 1 s t ∧ t.flags = { s.flags with cy := t.flags.cy } ∧
  t.regs.a.toNat = s.regs.a.toNat * 2 % 256 + bitIn ∧ (t.flags.cy = true ↔ 128 ≤ s.regs.a.toNat)

/-- `t` is `s` after a rotate to the right that enters `bitIn` in bit 7 of A: bit 0 goes to CY. -/
def RotatedRight (bitIn : Nat) (s t : State) : Prop :=
  OnlyAccumulator 1 s t ∧ t.flags = { s.flags with cy := t.flags.cy } ∧
  t.regs.a.toNat = s.regs.a.toNat / 2 + bitIn * 128 ∧ (t.flags.cy = true ↔ s.regs.a.toNat % 2 = 1)

theorem rotatedLeft_setRotated (c : Bool) :
    RotatedLeft c.toNat s ((s.advance 1).setRotated (shiftLeftIn s.regs.a c) (s.regs.a.getLsbD 7)) :=
  ⟨rfl, rfl, shiftLeftIn_toNat s.regs.a c, getLsbD_seven s.regs.a⟩

theorem rotatedRight_setRotated (c : Bool) :
    RotatedRight c.toNat s ((s.advance 1).setRotated (shiftRightIn s.regs.a c) (s.regs.a.getLsbD 0)) :=
  ⟨rfl, rfl, shiftRightIn_toNat s.regs.a c, getLsbD_zero s.regs.a⟩

/-- RLC enters bit 7 itself. -/
theorem rotatedLeft_rlcEffect : RotatedLeft (s.regs.a.toNat / 128) s (rlcEffect (s.advance 1)) := by
  have hbit : (s.regs.a.getLsbD 7).toNat = s.regs.a.toNat / 128 := by
    have ha := s.regs.a.isLt
    rw [getLsbD_toNat]
    omega
  exact hbit ▸ rotatedLeft_setRotated s (s.regs.a.getLsbD 7)

/-- RRC enters bit 0 itself. -/
theorem rotatedRight_rrcEffect : RotatedRight (s.regs.a.toNat % 2) s (rrcEffect (s.advance 1)) := by
  have hbit : (s.regs.a.getLsbD 0).toNat = s.regs.a.toNat % 2 := by rw [getLsbD_toNat, pow_zero, Nat.div_one]
  exact hbit ▸ rotatedRight_setRotated s (s.regs.a.getLsbD 0)

/-! ## Complement (R121) -/

theorem cmaEffect_a_toNat : (cmaEffect s).regs.a.toNat = 255 - s.regs.a.toNat :=
  (BitVec.toNat_ofNat ..).trans (Nat.mod_eq_of_lt (by omega))

end

/-! ## The obligations -/

/-- Settles O29: each of the five is the logic unit, on the byte that the code names or on the immediate byte. -/
theorem logicOperations : Obligations.LogicOperations := fun src d8 s =>
  ⟨encode_alu_code .ana src, encode_alu_code .xra src, encode_alu_code .ora src, encode_aluImm d8 .xra,
    encode_aluImm d8 .ora, logicGives_of_exec s (exec_alu s .ana src), logicGives_of_exec s (exec_alu s .xra src),
    logicGives_of_exec s (exec_alu s .ora src), logicGives_of_exec s (exec_aluImm s d8 .xra),
    logicGives_of_exec s (exec_aluImm s d8 .ora)⟩

/-- Settles O31: both are the subtracter, of which only the flags are written. -/
theorem compareWritesFlagsOnly : Obligations.CompareWritesFlagsOnly := fun src d8 s =>
  ⟨encode_alu_code .cmp src, encode_aluImm d8 .cmp, flagsOnly_of_exec s (exec_alu s .cmp src),
    flagsOnly_of_exec s (exec_aluImm s d8 .cmp)⟩

/-- Settles O32: RLC and RAL are one rotate to the left, RRC and RAR one to the right; the two of a pair differ in the bit that
enters. -/
theorem rotatesOfTheAccumulator : Obligations.RotatesOfTheAccumulator := by
  refine fun s => ⟨rfl, rfl, rfl, rfl, fun i hi => ?_⟩
  simp only [List.mem_cons, List.not_mem_nil, or_false] at hi
  obtain rfl | rfl | rfl | rfl := hi
  · obtain ⟨hframe, hflags, ha, hcy⟩ := rotatedLeft_rlcEffect s
    exact ⟨_, exec_rlc s, hframe, hflags, fun _ => ha, nofun, nofun, nofun, fun _ => hcy, nofun⟩
  · obtain ⟨hframe, hflags, ha, hcy⟩ := rotatedRight_rrcEffect s
    exact ⟨_, exec_rrc s, hframe, hflags, nofun, fun _ => ha, nofun, nofun, nofun, fun _ => hcy⟩
  · obtain ⟨hframe, hflags, ha, hcy⟩ := rotatedLeft_setRotated s s.flags.cy
    exact ⟨_, exec_ral s, hframe, hflags, nofun, nofun, fun _ => ha, nofun, fun _ => hcy, nofun⟩
  · obtain ⟨hframe, hflags, ha, hcy⟩ := rotatedRight_setRotated s s.flags.cy
    exact ⟨_, exec_rar s, hframe, hflags, nofun, nofun, nofun, fun _ => ha, nofun, fun _ => hcy⟩

/-- Settles O30: ANI is the logic unit's AND, on the immediate byte. -/
theorem andImmediate : Obligations.AndImmediate := fun d8 s =>
  ⟨encode_aluImm d8 .ana, logicGives_of_exec s (exec_aluImm s d8 .ana)⟩

/-- Settles O33: CMA is one write to A, CMC and STC one write to the flags that keeps all but CY. -/
theorem complementAndCarry : Obligations.ComplementAndCarry := fun s =>
  ⟨rfl, rfl, rfl, ⟨_, exec_cma s, rfl, rfl, cmaEffect_a_toNat (s.advance 1)⟩, exec_cmc s, exec_stc s⟩

end Sys2Proof.Machine
end

section
/-! Proofs about branch, call and return (44_branch R124 to R151): what a conditional instruction does is said once for every
condition, and the table of an obligation is the list of its conditions under one row function. -/

namespace Sys2Proof.Machine

/-- The row of a conditional instruction in the slots 11 CCC `low`: its opcode, the instruction, and whether it is taken. -/
def conditionRow (low : Nat) (instr : Cond → Instr) (f : Flags) (cond : Cond) : Byte × Instr × Bool :=
  (opcodeOfFields 3 cond.code low, instr cond, f.holds cond)

section

variable (s : State)

/-! ## Jumps (R124 to R133) -/

/-- The slots 11 CCC 010 of the opcode table. -/
theorem encode_jcc (a16 : Word) (cond : Cond) :
    encode (Instr.jcc a16 cond) = [opcodeOfFields 3 cond.code 2, loByte a16, hiByte a16] := by
  cases cond <;> rfl

/-- A conditional jump writes PC alone: the target, or the address after its three bytes. -/
theorem exec_jcc_pc (a16 : Word) (cond : Cond) (h : jumpIsSource cond = true ∨ s.cfg.unnamedTierPolicy = .execute) :
    exec (Instr.jcc a16 cond) s = .next { s with pc := if s.flags.holds cond then a16 else s.pc + 3 } := by
  rw [exec_jcc s a16 cond h, jccEffect, State.advance_flags]
  split <;> rfl

/-! ## Calls (R134 to R142) -/

/-- The slots 11 CCC 100 of the opcode table. -/
theorem encode_ccc (a16 : Word) (cond : Cond) :
    encode (Instr.ccc a16 cond) = [opcodeOfFields 3 cond.code 4, loByte a16, hiByte a16] := by
  cases cond <;> rfl

theorem cccEffect_of_holds {cond : Cond} (h : s.flags.holds cond = true) (a16 : Word) :
    cccEffect cond a16 s = callEffect a16 s := if_pos h

theorem cccEffect_of_not_holds {cond : Cond} (h : s.flags.holds cond = false) (a16 : Word) :
    cccEffect cond a16 s = s := if_neg (Bool.eq_false_iff.1 h)

/-- A conditional call is the call where its condition holds, and elsewhere only the fetch of its three bytes. -/
theorem exec_ccc_calls (a16 : Word) (cond : Cond) (hp : s.cfg.unnamedTierPolicy = .execute) :
    ∃ t, exec (Instr.ccc a16 cond) s = .next t ∧ (s.flags.holds cond = true → CalledFrom a16 s t) ∧
      (s.flags.holds cond = false → t = { s with pc := s.pc + 3 }) := by
  refine ⟨_, exec_ccc s a16 cond hp, fun h => ?_, fun h => cccEffect_of_not_holds (s.advance 3) h a16⟩
  rw [cccEffect_of_holds (s.advance 3) h]
  exact calledFrom_callEffect s a16

/-! ## Returns (R143 to R151) -/

/-- The slots 11 CCC 000 of the opcode table. -/
theorem encode_rcc (cond : Cond) : encode (Instr.rcc cond) = [opcodeOfFields 3 cond.code 0] := by cases cond <;> rfl

theorem rccEffect_of_holds {cond : Cond} (h : s.flags.holds cond = true) : rccEffect cond s = retEffect s := if_pos h

theorem rccEffect_of_not_holds {cond : Cond} (h : s.flags.holds cond = false) : rccEffect cond s = s :=
  if_neg (Bool.eq_false_iff.1 h)

/-- A conditional return is the return where its condition holds, and elsewhere only the fetch of its one byte. -/
theorem exec_rcc_returns (cond : Cond) (hp : s.cfg.unnamedTierPolicy = .execute) :
    ∃ t, exec (Instr.rcc cond) s = .next t ∧ (s.flags.holds cond = true → ReturnedFrom s t) ∧
      (s.flags.holds cond = false → t = { s with pc := s.pc + 1 }) := by
  refine ⟨_, exec_rcc s cond hp, fun h => ?_, fun h => rccEffect_of_not_holds (s.advance 1) h⟩
  rw [rccEffect_of_holds (s.advance 1) h]
  exact returnedFrom_retEffect s

end

/-- The word that Pop16 returns is read from SP and memory only. -/
theorem State.top16_congr {s t : State} (hsp : t.sp = s.sp) (hmem : t.mem = s.mem) : t.top16 = s.top16 := by
  simp only [State.top16, State.readWord, hsp, State.readByte_congr hmem]

/-! ## The obligations -/

/-- Settles O35: the rows are those of the six conditions whose jump is of tier `source`. -/
theorem conditionalJumps : Obligations.ConditionalJumps := by
  intro a16 s
  refine (List.forall_mem_map (f := conditionRow 2 (Instr.jcc a16) s.flags) (l := [.nz, .z, .nc, .c, .p, .m])).2
    fun cond hcond => ⟨encode_jcc a16 cond, exec_jcc_pc s a16 cond (.inl ?_)⟩
  revert cond
  decide

/-- Settles O37: the first row is CALL, the others are those of the eight conditions. -/
theorem callsPushTheReturnAddress : Obligations.CallsPushTheReturnAddress := fun a16 s hp =>
  List.forall_mem_cons.2 ⟨⟨rfl, _, exec_call s a16 hp, fun _ => calledFrom_callEffect s a16, nofun⟩,
    (List.forall_mem_map (f := conditionRow 4 (Instr.ccc a16) s.flags) (l := [.nz, .z, .nc, .c, .po, .pe, .p, .m])).2
      fun cond _ => ⟨encode_ccc a16 cond, exec_ccc_calls s a16 cond hp⟩⟩

/-- Settles O38: RET is of tier `source`; the rows are those of the eight conditions. -/
theorem returnsPopThePc : Obligations.ReturnsPopThePc := fun s =>
  ⟨rfl, ⟨_, exec_ret s, returnedFrom_retEffect s⟩, fun hp =>
    (List.forall_mem_map (f := conditionRow 0 Instr.rcc s.flags) (l := [.nz, .z, .nc, .c, .po, .pe, .p, .m])).2
      fun cond _ => ⟨encode_rcc cond, exec_rcc_returns s cond hp⟩⟩

/-- Settles O39: RET reads SP and memory only, and a pop after the push of CALL gives the word pushed and the old SP. -/
theorem returnUndoesTheCall : Obligations.ReturnUndoesTheCall := by
  refine fun a16 s hp => ⟨_, exec_call s a16 hp, fun u hsp hmem => ⟨_, exec_ret u, ?_, ?_⟩⟩
  · exact (State.top16_congr hsp hmem).trans (State.top16_push16 (s.advance 3) (s.pc + 3))
  · exact (congrArg (· + 1 + 1) hsp).trans (State.sp_drop16_push16 (s.advance 3) (s.pc + 3))

/-- Settles O34: each is one write to PC, of the target or of HL. -/
theorem unconditionalJumps : Obligations.UnconditionalJumps := fun a16 s =>
  ⟨rfl, rfl, exec_jmp s a16, _, exec_pchl s, rfl, ofBytes_toNat s.regs.h s.regs.l⟩

/-- Settles O36: the rows are those of the two conditions on P, whose jump is of tier `unnamed`. -/
theorem parityJumps : Obligations.ParityJumps := fun a16 s hp =>
  (List.forall_mem_map (f := conditionRow 2 (Instr.jcc a16) s.flags) (l := [.po, .pe])).2
    fun cond _ => ⟨encode_jcc a16 cond, exec_jcc_pc s a16 cond (.inr hp)⟩

end Sys2Proof.Machine
end

section
/-! Proofs about the stack, the ports, machine control and the unsupported opcodes (45_stack_io_control R153 to R163): PUSH and POP
are said once for every pair, A with the flag byte among them, and a statement about one pair names its two bytes. -/

namespace Sys2Proof.Machine

section

variable (s : State)

/-! ## Pairs written with the word of two bytes -/

theorem State.writeStackPair_bc_ofBytes (hi lo : Byte) :
    s.writeStackPair .bc (ofBytes hi lo) = { s with regs := { s.regs with b := hi, c := lo } } := by
  rw [State.writeStackPair, Regs.setBc, hiByte_ofBytes, loByte_ofBytes]

theorem State.writeStackPair_de_ofBytes (hi lo : Byte) :
    s.writeStackPair .de (ofBytes hi lo) = { s with regs := { s.regs with d := hi, e := lo } } := by
  rw [State.writeStackPair, Regs.setDe, hiByte_ofBytes, loByte_ofBytes]

theorem State.writeStackPair_hl_ofBytes (hi lo : Byte) :
    s.writeStackPair .hl (ofBytes hi lo) = { s with regs := { s.regs with h := hi, l := lo } } := by
  rw [State.writeStackPair, Regs.setHl, hiByte_ofBytes, loByte_ofBytes]

theorem State.writeStackPair_psw_ofBytes (hi lo : Byte) :
    s.writeStackPair .psw (ofBytes hi lo) = (s.setA hi).setFlags (flagsOfByte lo) := by
  rw [State.writeStackPair, hiByte_ofBytes, loByte_ofBytes]

/-- A stack pair written with what it holds is no change; the fill bits of the flag byte are dropped (10_state R24). -/
theorem State.writeStackPair_readStackPair (rp : StackPair) : s.writeStackPair rp (s.readStackPair rp) = s := by
  cases rp with
  | bc => exact s.writeStackPair_bc_ofBytes s.regs.b s.regs.c
  | de => exact s.writeStackPair_de_ofBytes s.regs.d s.regs.e
  | hl => exact s.writeStackPair_hl_ofBytes s.regs.h s.regs.l
  | psw =>
    rw [State.readStackPair, State.writeStackPair_psw_ofBytes, flagsOfByte_flagByte]
    rfl

/-! ## PUSH and POP (R153 to R156) -/

/-- PUSH writes SP, PC and memory, whatever the pair. -/
theorem pushEffect_eq (rp : StackPair) :
    pushEffect rp (s.advance 1) =
      { s with mem := (pushEffect rp (s.advance 1)).mem, sp := s.sp - 2, pc := s.pc + 1 } :=
  push16_eq (s.advance 1) _

/-- PUSH of a pair that is the word of two bytes: the high one is stored at SP - 1, the low one at SP - 2. -/
theorem exec_push_stores (rp : StackPair) {hi lo : Byte} (hpair : s.readStackPair rp = ofBytes hi lo) :
    ∃ t, exec (Instr.push rp) s = .next t ∧ t = { s with mem := t.mem, sp := s.sp - 2, pc := s.pc + 1 } ∧
      t.readByte (s.sp - 1) = hi ∧ t.readByte (s.sp - 2) = lo ∧
      ∀ x, x ≠ s.sp - 1 → x ≠ s.sp - 2 → t.readByte x = s.readByte x := by
  have hsp : s.sp - 1 - 1 = s.sp - 2 := by bv_omega
  have hne : s.sp - 1 ≠ s.sp - 2 := by bv_omega
  have hword : (s.advance 1).readStackPair rp = ofBytes hi lo := hpair
  have hread (x : Word) : (pushEffect rp (s.advance 1)).readByte x =
      if x = s.sp - 2 then lo else if x = s.sp - 1 then hi else s.readByte x := by
    rw [pushEffect, hword, State.readByte_push16, State.advance_sp, hsp, loByte_ofBytes, hiByte_ofBytes,
      State.readByte_advance]
  refine ⟨_, exec_push s rp, pushEffect_eq s rp, ?_, ?_, fun x hx hx' => ?_⟩
  · rw [hread, if_neg hne, if_pos rfl]
  · rw [hread, if_pos rfl]
  · rw [hread, if_neg hx', if_neg hx]

/-- POP writes the pair with the word at SP, and SP ends 2 higher. -/
theorem exec_pop_writes (rp : StackPair) :
    exec (Instr.pop rp) s =
      .next (State.writeStackPair { s with sp := s.sp + 2, pc := s.pc + 1 } rp s.top16) := by
  have hsp : s.sp + 1 + 1 = s.sp + 2 := by bv_omega
  rw [exec_pop, popEffect, State.top16_advance, State.drop16, State.advance_sp, hsp]
  rfl

/-- POP after PUSH writes the pair with the word that it held, so only memory and PC are left changed. -/
theorem exec_pop_after_push (rp : StackPair) :
    exec (Instr.pop rp) (pushEffect rp (s.advance 1)) =
      .next { s with mem := (pushEffect rp (s.advance 1)).mem, pc := s.pc + 2 } := by
  have hsp : s.sp - 2 + 2 = s.sp := by bv_omega
  have hpc : s.pc + 1 + 1 = s.pc + 2 := by bv_omega
  have hword : (pushEffect rp (s.advance 1)).top16 = s.readStackPair rp := State.top16_push16 _ _
  rw [exec_pop_writes, hword, pushEffect_eq]
  simp only [hsp, hpc]
  exact congrArg _ (State.writeStackPair_readStackPair _ rp)

/-! ## XTHL (R157) -/

/-- XTHL reads the word at SP before it stores HL there. -/
theorem xthlEffect_eq :
    xthlEffect s = { s.writeWord s.sp s.regs.hl with
      regs := { s.regs with l := s.readByte s.sp, h := s.readByte (s.sp + 1) } } :=
  State.writeStackPair_hl_ofBytes ..

end

/-! ## The obligations -/

/-- Settles O40: each pair is the word of its two registers. -/
theorem pushStoresThePair : Obligations.PushStoresThePair := fun s =>
  List.forall_mem_cons.2 ⟨⟨rfl, exec_push_stores s .bc rfl⟩,
    List.forall_mem_cons.2 ⟨⟨rfl, exec_push_stores s .de rfl⟩,
      List.forall_mem_singleton.2 ⟨rfl, exec_push_stores s .hl rfl⟩⟩⟩

/-- Settles O43: POP pops the word that PUSH pushed, and a pair written with what it held is no change. -/
theorem popUndoesThePush : Obligations.PopUndoesThePush := fun rp s =>
  ⟨_, _, exec_push s rp, exec_pop_after_push s rp, rfl⟩

/-- Settles O41: the word at SP is that of the two bytes there; the round trip is that of `popUndoesThePush`. -/
theorem popLoadsThePair : Obligations.PopLoadsThePair := by
  refine ⟨fun s => ⟨rfl, rfl, rfl, ?_, ?_, ?_⟩, fun s rp _ => ?_⟩
  · exact (exec_pop_writes s .bc).trans (congrArg _ (State.writeStackPair_bc_ofBytes ..))
  · exact (exec_pop_writes s .de).trans (congrArg _ (State.writeStackPair_de_ofBytes ..))
  · exact (exec_pop_writes s .hl).trans (congrArg _ (State.writeStackPair_hl_ofBytes ..))
  · obtain ⟨t, u, ht, hu, rfl⟩ := popUndoesThePush rp s
    exact ⟨t, _, ht, hu, rfl, rfl⟩

/-- Settles O42: PSW is the word of A and the flag byte. -/
theorem pswMoves : Obligations.PswMoves := by
  refine fun s => ⟨rfl, rfl, ?_, ?_⟩
  · obtain ⟨t, ht, hframe, ha, hflags, hmem⟩ := exec_push_stores s .psw rfl
    exact ⟨t, ht, hframe, ha, hflags ▸ flagByte_toNat s.cfg s.flags, hmem⟩
  · exact (exec_pop_writes s .psw).trans (congrArg _ (State.writeStackPair_psw_ofBytes ..))

/-- Settles O44: XTHL is a word write at SP and a write to HL of the word that stood there; SPHL is one write to SP. -/
theorem xthlAndSphl : Obligations.XthlAndSphl := by
  refine fun s hp => ⟨rfl, rfl, ⟨_, exec_xthl s hp, ?_⟩, _, exec_sphl s hp, rfl, ofBytes_toNat s.regs.h s.regs.l⟩
  rw [xthlEffect_eq]
  exact ⟨rfl, (s.advance 1).readByte_writeWord_hl s.sp⟩

/-- Settles O45: IN is one write to A, OUT one write to the output bank, and reset leaves the input bank with no cell. -/
theorem inAndOut : Obligations.InAndOut := by
  refine ⟨fun n s => ⟨rfl, rfl, exec_inp s n, _, exec_outp s n, rfl, ?_, fun k hk => ?_⟩, fun _ => rfl⟩
  · exact (State.readOutPort_writeOutPort ..).trans (if_pos rfl)
  · exact (State.readOutPort_writeOutPort ..).trans (if_neg hk)

/-- Settles O47: the 22 opcodes are those of tier `unsupported`. -/
theorem unsupportedOpcodesOnlyReport : Obligations.UnsupportedOpcodesOnlyReport := fun i s h =>
  exec_unsupported s ((tier_eq_unsupported_iff i).2 h)

/-- Settles O46: HLT is one write to `halted`, NOP no write; both are one byte long. -/
theorem hltAndNop : Obligations.HltAndNop := fun s => ⟨rfl, rfl, exec_hlt s, exec_nop s⟩

end Sys2Proof.Machine
end

section
/-! Proofs about the controller and the events (60_exceptions R164 to R182): which instructions send an event, what the host's
requests do in each state of the controller, and what every move but a reset keeps in HALTED. -/

namespace Sys2Proof.Machine

/-! ## Events (R164, R168) -/

theorem State.writeStackPair_events (s : State) (rp : StackPair) (v : Word) :
    (s.writeStackPair rp v).events = s.events := by
  cases rp <;> rfl

/-- No effect but STA's sends an event (20_memory R54). -/
theorem HasEffect.events_eq {i : Instr} {effect : State → State} (h : HasEffect i effect) (hi : ∀ a16, i ≠ .sta a16)
    (s : State) : (effect s).events = s.events := by
  cases h with
  | sta a16 => exact absurd rfl (hi a16)
  | mov | mvi | inr | dcr => exact State.writeR_events ..
  | lxi | inx | dcx | dad | lhld | xthl => exact State.writePair_events ..
  | pop => exact State.writeStackPair_events ..
  | alu op | aluImm op => cases op <;> rfl
  | jcc | ccc | rcc => exact ite_keeps State.events rfl
  | _ => rfl

/-- STA is of tier `source`, so it always sends its hint. -/
theorem events_of_exec_sta {a16 : Word} {s t : State} (h : exec (.sta a16) s = .next t) :
    t.events = s.events ++ [.persistHint a16] := by
  rw [exec_sta] at h
  cases h
  rfl

/-! ## The controller by its state (R173, R176, R178, R182) -/

section

variable {s t : State}

/-- A break that is pending in run mode is taken before the next instruction. -/
theorem controllerStep_of_break (hc : s.ctrl = .running .run) (hb : s.breakPending = true) :
    controllerStep s = .next { s with breakPending := false, ctrl := .paused } := by
  obtain ⟨m, hm, hmb, -⟩ | ⟨-, -, he⟩ | ⟨hm, -⟩ := controllerStep_cases s
  · obtain rfl : m = .run := by simpa [hc, eq_comm] using hm
    cases hb.symm.trans (hmb rfl)
  · exact he
  · exact absurd hc (hm .run)

/-- Outside RUNNING the core does nothing. -/
theorem controllerStep_of_not_running (hc : ∀ m, s.ctrl ≠ .running m) : controllerStep s = .next s := by
  obtain ⟨m, hm, -⟩ | ⟨hm, -⟩ | ⟨-, he⟩ := controllerStep_cases s
  · exact absurd hm (hc m)
  · exact absurd hm (hc .run)
  · exact he

/-! ## The host's requests (R173, R174, R176, R178) -/

/-- A run request acts in READY and PAUSED. -/
theorem State.requestRun_eq (s : State) : s.requestRun =
    { s with ctrl := if s.ctrl = .ready ∨ s.ctrl = .paused then .running .run else s.ctrl } := by
  unfold State.requestRun
  split
  · next hc => rw [if_pos (.inl hc)]
  · next hc => rw [if_pos (.inr hc)]
  all_goals next hc => rw [if_neg (by simp [hc])]

/-- A step request acts in READY and PAUSED. -/
theorem State.requestStep_eq (s : State) : s.requestStep =
    { s with ctrl := if s.ctrl = .ready ∨ s.ctrl = .paused then .running .step else s.ctrl } := by
  unfold State.requestStep
  split
  · next hc => rw [if_pos (.inl hc)]
  · next hc => rw [if_pos (.inr hc)]
  all_goals next hc => rw [if_neg (by simp [hc])]

/-- A break request acts in run mode. -/
theorem State.requestBreak_eq (s : State) : s.requestBreak =
    { s with breakPending := if s.ctrl = .running .run then true else s.breakPending } := by
  unfold State.requestBreak
  split
  · next hc => rw [if_pos hc]
  all_goals next hc => rw [if_neg (by simp [hc])]

/-! ## HALTED (R178, R187) -/

/-- `t` is `s` but for what a move of the host other than a reset may write in HALTED. -/
def OnlyHostWritten (s t : State) : Prop :=
  t = { s with pc := t.pc, mem := t.mem, inPort := t.inPort, events := t.events, hostMoves := t.hostMoves }

/-- An edit that is not refused gives the edited state. -/
theorem eq_of_hostEdit_next {move : HostMove} {edited : State} (h : hostEdit move edited s = .next t) : t = edited := by
  obtain ⟨-, he⟩ | ⟨-, he⟩ := hostEdit_cases move edited s
  · cases he.symm.trans h
    rfl
  · cases he.symm.trans h

theorem State.requestRun_of_halted (hc : s.ctrl = .halted) : s.requestRun = s := by
  rw [State.requestRun_eq, if_neg (by simp [hc])]

theorem State.requestStep_of_halted (hc : s.ctrl = .halted) : s.requestStep = s := by
  rw [State.requestStep_eq, if_neg (by simp [hc])]

theorem State.requestBreak_of_halted (hc : s.ctrl = .halted) : s.requestBreak = s := by
  rw [State.requestBreak_eq, if_neg (by simp [hc])]

theorem not_running_of_halted (hc : s.ctrl = .halted) (m : Mode) : s.ctrl ≠ .running m := by
  simp [hc]

/-- In HALTED a move other than a reset is an edit, takes delivery of the events, or has no effect; the edit `setPc` alone
writes PC. -/
theorem hostMove_of_halted {move : HostMove} (hc : s.ctrl = .halted) (hreset : move ≠ .requestReset)
    (h : hostMove move s = .next t) : OnlyHostWritten s t ∧ ((∀ a, move ≠ .setPc a) → t.pc = s.pc) := by
  cases move with
  | proceed =>
    cases (controllerStep_of_not_running (not_running_of_halted hc)).symm.trans h
    exact ⟨rfl, fun _ => rfl⟩
  | load bytes address =>
    obtain rfl := eq_of_hostEdit_next h
    rw [State.loadBytes_eq]
    exact ⟨rfl, fun _ => rfl⟩
  | setPc address =>
    obtain rfl := eq_of_hostEdit_next h
    exact ⟨rfl, fun hpc => absurd rfl (hpc address)⟩
  | poke | setInputPort | restore =>
    obtain rfl := eq_of_hostEdit_next h
    exact ⟨rfl, fun _ => rfl⟩
  | requestRun =>
    cases h
    rw [State.requestRun_of_halted hc]
    exact ⟨rfl, fun _ => rfl⟩
  | requestStep =>
    cases h
    rw [State.requestStep_of_halted hc]
    exact ⟨rfl, fun _ => rfl⟩
  | requestBreak =>
    cases h
    rw [State.requestBreak_of_halted hc]
    exact ⟨rfl, fun _ => rfl⟩
  | requestReset => exact absurd rfl hreset
  | receiveEvents =>
    cases h
    exact ⟨rfl, fun _ => rfl⟩

theorem step_of_halted (hc : s.ctrl = .halted) (hreset : ∀ moves, s.hostMoves ≠ .requestReset :: moves)
    (h : step s = .next t) :
    OnlyHostWritten s t ∧ ((∀ a moves, s.hostMoves ≠ .setPc a :: moves) → t.pc = s.pc) := by
  cases hm : s.hostMoves with
  | nil =>
    rw [step_nil hm, controllerStep_of_not_running (not_running_of_halted hc)] at h
    cases h
    exact ⟨rfl, fun _ => rfl⟩
  | cons move moves =>
    rw [step_cons hm] at h
    obtain ⟨hframe, hpc⟩ := hostMove_of_halted (s := { s with hostMoves := moves }) hc
      (fun hmove => hreset moves (hmove ▸ hm)) h
    exact ⟨hframe, fun hset => hpc fun a hmove => hset a moves (hmove ▸ rfl)⟩

end

/-! ## The obligations -/

/-- Settles O51: an executed effect other than STA's sends no event, and an opcode that is not executed sends its own. -/
theorem atMostOneEventPerInstruction : Obligations.AtMostOneEventPerInstruction := by
  intro i s t h
  by_cases hi : ∃ a16, i = .sta a16
  · obtain ⟨a16, rfl⟩ := hi
    exact .inr ⟨a16, rfl, events_of_exec_sta h⟩
  · rw [not_exists] at hi
    refine .inl ⟨hi, ?_⟩
    obtain ⟨effect, he, rfl⟩ | rfl := exec_next_cases h
    · exact .inl (he.events_eq hi _)
    · exact .inr rfl

/-- Settles O56: each request by the states of the controller in which it acts, and the core's own step where it runs no
instruction. -/
theorem controllerTransitions : Obligations.ControllerTransitions := by
  intro s moves
  refine ⟨?_, ?_, ?_, fun hc hb => ?_, fun hc => ?_⟩
  · exact (step_cons rfl).trans (congrArg _ (State.requestRun_eq _))
  · exact (step_cons rfl).trans (congrArg _ (State.requestStep_eq _))
  · exact (step_cons rfl).trans (congrArg _ (State.requestBreak_eq _))
  · exact (step_nil rfl).trans (controllerStep_of_break hc hb)
  · refine (step_nil rfl).trans (controllerStep_of_not_running fun m => ?_)
    rcases hc with hc | hc | hc <;> simp [hc]

/-- Settles O57: in HALTED no move but a reset writes the controller's state or a register of the core other than PC. -/
theorem haltedUntilReset : Obligations.HaltedUntilReset := by
  intro s t hc hreset h
  obtain ⟨hframe, hpc⟩ := step_of_halted hc hreset h
  rw [OnlyHostWritten] at hframe
  rw [hframe]
  exact ⟨hc, rfl, rfl, rfl, rfl, rfl, hpc⟩

end Sys2Proof.Machine
end
